-- ==== Sys2Proof/Word.lean ====
section
/-!
DEFINITION. The word types of the block (00_scope R8: every value is an unsigned integer of a stated width).
-/

namespace Sys2Proof

/-- A byte: what every access to the block moves (20_memory R74). -/
abbrev Byte := BitVec 8

/-- A 16-bit PIT count (10_state R36). -/
abbrev Count := BitVec 16

/-- A port number (20_memory R70). -/
abbrev Port := BitVec 16

/-- The 25-bit access word of a one-byte port access (30_encoding R90). -/
abbrev AccessWord := BitVec 25

/-- The number of an IRQ line, 0 to 7; also the width of the priority base (00_scope R5, 10_state R26). -/
abbrev Irq := BitVec 3

end Sys2Proof
end

