-- ==== Sys2Proof/Config.lean ====
section
/-!
DEFINITION. The parameters of 00_scope R6 as plain data, and the free values: bytes the spec leaves without a value.
-/

namespace Sys2Proof

/-- A device the PIC can poll: an entry of `pic.attached` and of `IRQ_MAP` (10_state R34). -/
inductive Device where
  | pit
  | cmos
  /-- `EXT(d)`: an external device, named by d. -/
  | ext (d : Nat)
deriving DecidableEq, Repr

/-- The values of `PIC_NESTING` (00_scope R6, D10). -/
inductive Nesting where
  | single
  | fullyNested
deriving DecidableEq, Repr

/-- A wall-clock value (43_cmos_rtc R235). The ranges are the host's duty (60_exceptions R300): `Wall.wf` in
WellFormed.lean says them, and no operation assumes them. -/
structure Wall where
  year : Nat
  month : Nat
  day : Nat
  /-- Sunday is 0. -/
  wday : Nat
  hour : Nat
  min : Nat
  sec : Nat
deriving DecidableEq, Repr

/-- `CMOS_ROM`: index to byte, as a list of cells; an index that is not listed holds 0x00 (10_state R55, D45).
The canonical form is `Rom.wf` in WellFormed.lean. -/
abbrev Rom := List Host.Cell

/-- The parameters of a step (00_scope R6). The last three fields are the model's: how many further ports, past the
unit's own range of 20_memory R71, the host routes to the unit (40_port_contract R131; log 9). -/
structure Params where
  irqMap : Vector (Option Device) 8
  nesting : Nesting
  resetVectorBase : Byte
  cmosRom : Rom
  statusAReset : Byte
  picExtra : Nat
  pitExtra : Nat
  cmosExtra : Nat
deriving DecidableEq, Repr

/-- The defaults of 00_scope R6 (D10, D16, D17, D45, D47), and no port routed beyond 20_memory R71. -/
def Params.default : Params where
  irqMap := #v[some .pit, none, none, none, none, none, none, none]
  nesting := .single
  resetVectorBase := 0x08#8
  cmosRom := []
  statusAReset := 0x26#8
  picExtra := 0
  pitExtra := 0
  cmosExtra := 0

/-- The byte `NOVALUE` of the k-th rejected read: any value (00_scope R6, D49, I1; log 5). -/
opaque Config.noValue : Nat → Byte

/-- The byte `enc` gives for a time value that no byte can hold, which only a host that breaks its duty can supply:
any value (43_cmos_rtc R235, 60_exceptions R300, I10; log 6). The argument is the number that does not fit. -/
opaque Config.encOverflow : Nat → Byte

end Sys2Proof
end

