-- ==== Sys2Proof/Syntax.lean ====
section
/-!
DEFINITION. The operations of the block: one constructor of `Instr` per row of spec/opcode_table.json, and what the
environment can ask of the block (a port access or a host call). Operands that a rule calls ignored are kept, so that a
written byte can be read back from its instruction (log 14).
-/

namespace Sys2Proof

/-- The progress of the PIC initialization sequence (10_state R27). -/
inductive InitState where
  | idle
  | waitIcw2
  | waitIcw3
  | waitIcw4
deriving DecidableEq, Repr

/-- The number of a PIT channel (00_scope R5). -/
inductive PitChan where
  | ch0
  | ch1
  | ch2
deriving DecidableEq, Repr

/-- A stored access mode (10_state R39). -/
inductive Access where
  | lo
  | hi
  | lohi
deriving DecidableEq, Repr

/-- The byte cursor of a PIT channel (10_state R43). -/
inductive Cursor where
  | low
  | high
deriving DecidableEq, Repr

/-- The operating mode of a PIT channel (10_state R38). -/
inductive PitMode where
  /-- Mode 0, one-shot. -/
  | mode0
  /-- Mode 2, rate generator. -/
  | mode2
  /-- Mode 3, square wave. -/
  | mode3
deriving DecidableEq, Repr

/-- The operations of the block (00_scope R2, 30_encoding R118), in the order of the opcode table. -/
inductive Instr where
  /-- ICW1 (30_encoding R93): bits 7:5, LTIM, ADI (all ignored), SNGL, IC4. -/
  | picIcw1 (a7 : BitVec 3) (ltim adi sngl ic4 : Bool)
  /-- OCW2 commands 0 to 7 (30_encoding R94); `l` is v[2:0]. -/
  | picOcw2ClearRotateAeoi (l : BitVec 3)
  | picOcw2NonspecificEoi (l : BitVec 3)
  | picOcw2Nop (l : BitVec 3)
  | picOcw2SpecificEoi (l : Irq)
  | picOcw2SetRotateAeoi (l : BitVec 3)
  | picOcw2RotateNonspecificEoi (l : BitVec 3)
  | picOcw2SetPriority (l : Irq)
  | picOcw2RotateSpecificEoi (l : Irq)
  /-- OCW3 (30_encoding R95): bit 7 (ignored), ESMM, SMM, P, RR, RIS. -/
  | picOcw3 (b7 esmm smm p rr ris : Bool)
  | picIcw2 (v : Byte)
  | picIcw3 (v : Byte)
  /-- ICW4 (30_encoding R99): bits 7:5, SFNM, BUF, M/S (ignored), AEOI, µPM (ignored). -/
  | picIcw4 (b75 : BitVec 3) (sfnm buf ms aeoi upm : Bool)
  | picOcw1 (v : Byte)
  | picReadStatus
  | picReadImr
  /-- Control word with SC = 11 (30_encoding R105); `low` is v[5:0]. -/
  | pitCtlBadChannel (low : BitVec 6)
  /-- Latch-count command (30_encoding R103); `low` is v[3:0], not read. -/
  | pitCtlLatchCh0 (low : BitVec 4)
  | pitCtlLatchCh1 (low : BitVec 4)
  | pitCtlLatchCh2 (low : BitVec 4)
  /-- Control word with BCD = 1 (30_encoding R102); `m` is v[3:1]. -/
  | pitCtlBcd (ch : PitChan) (rw : Access) (m : BitVec 3)
  | pitCtlSetMode0 (ch : PitChan) (rw : Access)
  | pitCtlSetMode2 (ch : PitChan) (rw : Access)
  | pitCtlSetMode3 (ch : PitChan) (rw : Access)
  /-- Control word with a rejected mode (30_encoding R104); `m` is v[3:1], one of 1, 4, 5, 6, 7. -/
  | pitCtlBadMode (ch : PitChan) (rw : Access) (m : BitVec 3)
  | pitCh0WriteLo (v : Byte)
  | pitCh0WriteHi (v : Byte)
  | pitCh0WriteLohiLow (v : Byte)
  | pitCh0WriteLohiHigh (v : Byte)
  | pitCh0ReadLatched
  | pitCh0ReadLive
  | pitCh1WriteLo (v : Byte)
  | pitCh1WriteHi (v : Byte)
  | pitCh1WriteLohiLow (v : Byte)
  | pitCh1WriteLohiHigh (v : Byte)
  | pitCh1ReadLatched
  | pitCh1ReadLive
  | pitCh2WriteLo (v : Byte)
  | pitCh2WriteHi (v : Byte)
  | pitCh2WriteLohiLow (v : Byte)
  | pitCh2WriteLohiHigh (v : Byte)
  | pitCh2ReadLatched
  | pitCh2ReadLive
  | pitCtlRead
  /-- Index write (30_encoding R107): bit 7 (ignored) and the index v[6:0]. -/
  | cmosIndexWrite (b7 : Bool) (index : BitVec 7)
  | cmosIndexRead
  | cmosReadSeconds
  | cmosReadAlarmSeconds
  | cmosReadMinutes
  | cmosReadAlarmMinutes
  | cmosReadHours
  | cmosReadAlarmHours
  | cmosReadWeekday
  | cmosReadDay
  | cmosReadMonth
  | cmosReadYear
  | cmosReadStatusA
  | cmosReadStatusB
  | cmosReadStatusC
  | cmosReadStatusD
  | cmosReadCentury
  | cmosReadFixed
  | cmosWriteAlarmSeconds (v : Byte)
  | cmosWriteAlarmMinutes (v : Byte)
  | cmosWriteAlarmHours (v : Byte)
  /-- Status A write (30_encoding R109): UIP (ignored) and the stored bits 6:0. -/
  | cmosWriteStatusA (uip : Bool) (rega : BitVec 7)
  /-- Status B write (30_encoding R110): SET, SQWE and DSE are ignored. -/
  | cmosWriteStatusB (set pie aie uie sqwe dm h24 dse : Bool)
  | cmosWriteStatusCd (v : Byte)
  | cmosWriteOther (v : Byte)
  | hostPollAttachedDevices
  | hostPollResolve
  /-- Phase 3 of the PIC's poll; `i` is the winner of phase 2 (41_pic R164). -/
  | hostPollGrant (i : Irq)
  | hostPushIrq (n : Nat)
  | hostAttach (n : Nat) (dev : Device)
  | hostPitPollIrq
  | hostCmosPollIrq
deriving DecidableEq, Repr

/-- Direction of a port access: w[24] of the access word (30_encoding R90). -/
inductive Dir where
  | read
  | write
deriving DecidableEq, Repr

/-- `IoRead(port, size)` or `IoWrite(port, value, size)` (00_scope R9). A read has no value: the field is then not
used (log 10). -/
structure PortAccess where
  dir : Dir
  port : Port
  value : BitVec 32
  size : Nat
deriving DecidableEq, Repr

/-- What the environment can ask of the block in one step (00_scope R2; 60_exceptions R300). `poll` is the PIC's: the
devices' own polls are called by it (90_conflicts C14). -/
inductive Call where
  | port (a : PortAccess)
  | poll
  | pushIrq (n : Nat)
  | attach (n : Nat) (dev : Device)
deriving DecidableEq, Repr

end Sys2Proof
end

