-- ==== Sys2Proof/WellFormed.lean ====
section
/-!
DEFINITION. Which terms are well formed: instructions, wall-clock values, the fixed-byte table and the parameters.
-/

namespace Sys2Proof

/-- The mode codes a control word is rejected for: 1, 4, 5, 6 and 7 (30_encoding R104). -/
def badModeCode (m : BitVec 3) : Bool :=
  m == 0b001#3 || m == 0b100#3 || m == 0b101#3 || m == 0b110#3 || m == 0b111#3

/-- Operands that some byte of the row can carry. The types admit nothing else, but for the mode code of
`pitCtlBadMode`. -/
def Instr.wf : Instr → Bool
  | .pitCtlBadMode _ _ m => badModeCode m
  | _ => true

/-- The field ranges of 43_cmos_rtc R235. -/
def Wall.wf (w : Wall) : Bool :=
  decide (w.year ≤ 9999) && decide (1 ≤ w.month) && decide (w.month ≤ 12) && decide (1 ≤ w.day) &&
  decide (w.day ≤ 31) && decide (w.wday ≤ 6) && decide (w.hour ≤ 23) && decide (w.min ≤ 59) && decide (w.sec ≤ 59)

/-- An index that has no rule of its own: 0x0E to 0x31 and 0x33 to 0x7F (43_cmos_rtc R251). -/
def romIndex (n : Nat) : Bool :=
  (decide (0x0E ≤ n) && decide (n ≤ 0x31)) || (decide (0x33 ≤ n) && decide (n ≤ 0x7F))

/-- Indices strictly rising. -/
def Rom.rising : Rom → Bool
  | [] => true
  | [_] => true
  | a :: b :: rest => decide (a.1 < b.1) && Rom.rising (b :: rest)

/-- The canonical form of `CMOS_ROM`: indices strictly rising, each an index of 43_cmos_rtc R251, and no cell equal to
what an unlisted index reads as (10_state R55). -/
def Rom.wf (r : Rom) : Bool :=
  Rom.rising r && r.all (fun c => romIndex c.1 && c.2 != 0#8)

/-- The laws the spec states for the parameters: line 0 is the PIT (60_exceptions R283), bit 7 of
`CMOS_STATUS_A_RESET` is 0 (00_scope R6), and the fixed-byte table has its canonical form. -/
def Params.wf (p : Params) : Bool :=
  (p.irqMap[0] == some .pit) && !p.statusAReset.getLsbD 7 && Rom.wf p.cmosRom

end Sys2Proof
end

