-- ==== Sys2Proof/Decode.lean ====
section
/-!
DEFINITION. The decoder of access words (30_encoding), total on any word and any decode context, rejecting by name,
and the encoder, written from the same layouts (log 17).
-/

namespace Sys2Proof

/-- The part of the decode context that belongs to one PIT channel (30_encoding R91, R106). -/
structure ChanCtx where
  access : Access
  cursor : Cursor
  latchLeft : Nat
deriving DecidableEq, Repr

/-- The decode context: the state three decodes need besides the word (30_encoding R91). -/
structure Ctx where
  init : InitState
  index : BitVec 7
  ch0 : ChanCtx
  ch1 : ChanCtx
  ch2 : ChanCtx
deriving DecidableEq, Repr

/-- The decode context right after reset (10_state R61). -/
def Ctx.reset : Ctx where
  init := .idle
  index := 0#7
  ch0 := ⟨.lohi, .low, 0⟩
  ch1 := ⟨.lohi, .low, 0⟩
  ch2 := ⟨.lohi, .low, 0⟩

/-- Why a word is not decoded. -/
inductive Reject where
  /-- The port is none of the eight of 20_memory R71, so no unit has a register there (40_port_contract R131). -/
  | noRegister (port : Port)
deriving DecidableEq, Repr

/-! ## Fields -/

/-- w[24], the direction (30_encoding R90). -/
def AccessWord.isWrite (w : AccessWord) : Bool := w.getLsbD 24

/-- w[23:8], the port (30_encoding R90). -/
def AccessWord.port (w : AccessWord) : Port := w.extractLsb' 8 16

/-- w[7:0], the byte written (30_encoding R90). -/
def AccessWord.byte (w : AccessWord) : Byte := w.extractLsb' 0 8

/-- The access word of a port write (30_encoding R90). -/
def writeWord (port : Port) (v : Byte) : AccessWord := 1#1 ++ port ++ v

/-- The access word of a port read: w[7:0] = 0 (30_encoding R90). -/
def readWord (port : Port) : AccessWord := 0#1 ++ port ++ 0#8

/-- One bit of a command byte. -/
def bit1 (b : Bool) : BitVec 1 := BitVec.ofBool b

/-- SC, v[7:6]: 0b11 names no channel (30_encoding R102, R105). -/
def PitChan.ofBits (sc : BitVec 2) : Option PitChan :=
  if sc = 0b00#2 then some .ch0 else if sc = 0b01#2 then some .ch1 else if sc = 0b10#2 then some .ch2 else none

def PitChan.toBits : PitChan → BitVec 2
  | .ch0 => 0b00#2
  | .ch1 => 0b01#2
  | .ch2 => 0b10#2

/-- RW, v[5:4]: 0b00 is the latch command, no access mode (30_encoding R103). -/
def Access.ofBits (rw : BitVec 2) : Option Access :=
  if rw = 0b01#2 then some .lo else if rw = 0b10#2 then some .hi else if rw = 0b11#2 then some .lohi else none

def Access.toBits : Access → BitVec 2
  | .lo => 0b01#2
  | .hi => 0b10#2
  | .lohi => 0b11#2

/-! ## The decoder -/

/-- OCW2, by its command v[7:5] (30_encoding R94). -/
def decodeOcw2 (cmd l : BitVec 3) : Instr :=
  if cmd = 0#3 then .picOcw2ClearRotateAeoi l
  else if cmd = 1#3 then .picOcw2NonspecificEoi l
  else if cmd = 2#3 then .picOcw2Nop l
  else if cmd = 3#3 then .picOcw2SpecificEoi l
  else if cmd = 4#3 then .picOcw2SetRotateAeoi l
  else if cmd = 5#3 then .picOcw2RotateNonspecificEoi l
  else if cmd = 6#3 then .picOcw2SetPriority l
  else .picOcw2RotateSpecificEoi l

/-- A byte written to 0x20 (30_encoding R92): every byte is ICW1, OCW2 or OCW3 (R116). -/
def decodePicCommand (v : Byte) : Instr :=
  if v.getLsbD 4 then
    .picIcw1 (v.extractLsb' 5 3) (v.getLsbD 3) (v.getLsbD 2) (v.getLsbD 1) (v.getLsbD 0)
  else if v.getLsbD 3 then
    .picOcw3 (v.getLsbD 7) (v.getLsbD 6) (v.getLsbD 5) (v.getLsbD 2) (v.getLsbD 1) (v.getLsbD 0)
  else decodeOcw2 (v.extractLsb' 5 3) (v.extractLsb' 0 3)

/-- A byte written to 0x21, by `pic.init` (30_encoding R96). -/
def decodePicData (init : InitState) (v : Byte) : Instr :=
  match init with
  | .waitIcw2 => .picIcw2 v
  | .waitIcw3 => .picIcw3 v
  | .waitIcw4 =>
    .picIcw4 (v.extractLsb' 5 3) (v.getLsbD 4) (v.getLsbD 3) (v.getLsbD 2) (v.getLsbD 1) (v.getLsbD 0)
  | .idle => .picOcw1 v

/-- The latch-count command of a channel (30_encoding R103). -/
def latchInstr (ch : PitChan) (low : BitVec 4) : Instr :=
  match ch with
  | .ch0 => .pitCtlLatchCh0 low
  | .ch1 => .pitCtlLatchCh1 low
  | .ch2 => .pitCtlLatchCh2 low

/-- The mode of an accepted or rejected control word with RW ≠ 00 and BCD = 0 (30_encoding R104). -/
def decodePitMode (ch : PitChan) (rw : Access) (m : BitVec 3) : Instr :=
  if m = 0b000#3 then .pitCtlSetMode0 ch rw
  else if m = 0b010#3 then .pitCtlSetMode2 ch rw
  else if m = 0b011#3 then .pitCtlSetMode3 ch rw
  else .pitCtlBadMode ch rw m

/-- A byte written to 0x43, in the order SC, latch, BCD, mode (42_pit R186, D20). -/
def decodePitControl (v : Byte) : Instr :=
  match PitChan.ofBits (v.extractLsb' 6 2) with
  | none => .pitCtlBadChannel (v.extractLsb' 0 6)
  | some ch =>
    match Access.ofBits (v.extractLsb' 4 2) with
    | none => latchInstr ch (v.extractLsb' 0 4)
    | some rw =>
      if v.getLsbD 0 then .pitCtlBcd ch rw (v.extractLsb' 1 3) else decodePitMode ch rw (v.extractLsb' 1 3)

/-- A byte written to 0x40 (42_pit R189). -/
def decodeCh0Write (c : ChanCtx) (v : Byte) : Instr :=
  match c.access, c.cursor with
  | .lo, _ => .pitCh0WriteLo v
  | .hi, _ => .pitCh0WriteHi v
  | .lohi, .low => .pitCh0WriteLohiLow v
  | .lohi, .high => .pitCh0WriteLohiHigh v

/-- A byte written to 0x41 (42_pit R189). -/
def decodeCh1Write (c : ChanCtx) (v : Byte) : Instr :=
  match c.access, c.cursor with
  | .lo, _ => .pitCh1WriteLo v
  | .hi, _ => .pitCh1WriteHi v
  | .lohi, .low => .pitCh1WriteLohiLow v
  | .lohi, .high => .pitCh1WriteLohiHigh v

/-- A byte written to 0x42 (42_pit R189). -/
def decodeCh2Write (c : ChanCtx) (v : Byte) : Instr :=
  match c.access, c.cursor with
  | .lo, _ => .pitCh2WriteLo v
  | .hi, _ => .pitCh2WriteHi v
  | .lohi, .low => .pitCh2WriteLohiLow v
  | .lohi, .high => .pitCh2WriteLohiHigh v

/-- A byte written to 0x71, by `cmos.index` (43_cmos_rtc R252). -/
def decodeCmosWrite (index : BitVec 7) (v : Byte) : Instr :=
  if index = 0x01#7 then .cmosWriteAlarmSeconds v
  else if index = 0x03#7 then .cmosWriteAlarmMinutes v
  else if index = 0x05#7 then .cmosWriteAlarmHours v
  else if index = 0x0A#7 then .cmosWriteStatusA (v.getLsbD 7) (v.extractLsb' 0 7)
  else if index = 0x0B#7 then
    .cmosWriteStatusB (v.getLsbD 7) (v.getLsbD 6) (v.getLsbD 5) (v.getLsbD 4) (v.getLsbD 3) (v.getLsbD 2)
      (v.getLsbD 1) (v.getLsbD 0)
  else if index = 0x0C#7 then .cmosWriteStatusCd v
  else if index = 0x0D#7 then .cmosWriteStatusCd v
  else .cmosWriteOther v

/-- A read of 0x71, by `cmos.index` (43_cmos_rtc R232). -/
def decodeCmosRead (index : BitVec 7) : Instr :=
  if index = 0x00#7 then .cmosReadSeconds
  else if index = 0x01#7 then .cmosReadAlarmSeconds
  else if index = 0x02#7 then .cmosReadMinutes
  else if index = 0x03#7 then .cmosReadAlarmMinutes
  else if index = 0x04#7 then .cmosReadHours
  else if index = 0x05#7 then .cmosReadAlarmHours
  else if index = 0x06#7 then .cmosReadWeekday
  else if index = 0x07#7 then .cmosReadDay
  else if index = 0x08#7 then .cmosReadMonth
  else if index = 0x09#7 then .cmosReadYear
  else if index = 0x0A#7 then .cmosReadStatusA
  else if index = 0x0B#7 then .cmosReadStatusB
  else if index = 0x0C#7 then .cmosReadStatusC
  else if index = 0x0D#7 then .cmosReadStatusD
  else if index = 0x32#7 then .cmosReadCentury
  else .cmosReadFixed

/-- A port write, by its port (20_memory R71, 30_encoding R118). -/
def decodeWrite (c : Ctx) (port : Port) (v : Byte) : Except Reject Instr :=
  if port = 0x20#16 then .ok (decodePicCommand v)
  else if port = 0x21#16 then .ok (decodePicData c.init v)
  else if port = 0x40#16 then .ok (decodeCh0Write c.ch0 v)
  else if port = 0x41#16 then .ok (decodeCh1Write c.ch1 v)
  else if port = 0x42#16 then .ok (decodeCh2Write c.ch2 v)
  else if port = 0x43#16 then .ok (decodePitControl v)
  else if port = 0x70#16 then .ok (.cmosIndexWrite (v.getLsbD 7) (v.extractLsb' 0 7))
  else if port = 0x71#16 then .ok (decodeCmosWrite c.index v)
  else .error (.noRegister port)

/-- A port read, by its port; w[7:0] is not read (20_memory R71, 30_encoding R90, R118). -/
def decodeRead (c : Ctx) (port : Port) : Except Reject Instr :=
  if port = 0x20#16 then .ok .picReadStatus
  else if port = 0x21#16 then .ok .picReadImr
  else if port = 0x40#16 then .ok (if c.ch0.latchLeft = 0 then .pitCh0ReadLive else .pitCh0ReadLatched)
  else if port = 0x41#16 then .ok (if c.ch1.latchLeft = 0 then .pitCh1ReadLive else .pitCh1ReadLatched)
  else if port = 0x42#16 then .ok (if c.ch2.latchLeft = 0 then .pitCh2ReadLive else .pitCh2ReadLatched)
  else if port = 0x43#16 then .ok .pitCtlRead
  else if port = 0x70#16 then .ok .cmosIndexRead
  else if port = 0x71#16 then .ok (decodeCmosRead c.index)
  else .error (.noRegister port)

/-- The decoder: an access word in a decode context (30_encoding R90, R91). -/
def decode (c : Ctx) (w : AccessWord) : Except Reject Instr :=
  if AccessWord.isWrite w then decodeWrite c (AccessWord.port w) (AccessWord.byte w)
  else decodeRead c (AccessWord.port w)

/-- The instruction of a row's word in the context of reset: the table gives a word no context (30_encoding R91;
log 8). A number of more than 25 bits is no access word. -/
def decodeTableWord (nbits w : Nat) : Option Instr :=
  if w < 0x2000000 ∧ w >>> nbits = 0 then
    match decode Ctx.reset (BitVec.ofNat 25 w) with
    | .ok i => some i
    | .error _ => none
  else none

/-! ## The encoder -/

/-- The access word of a port operation; a host call has none (30_encoding R90). -/
def encode : Instr → Option AccessWord
  | .picIcw1 a7 ltim adi sngl ic4 =>
    some (writeWord 0x20#16 (a7 ++ 1#1 ++ bit1 ltim ++ bit1 adi ++ bit1 sngl ++ bit1 ic4))
  | .picOcw2ClearRotateAeoi l => some (writeWord 0x20#16 (0b000#3 ++ 0b00#2 ++ l))
  | .picOcw2NonspecificEoi l => some (writeWord 0x20#16 (0b001#3 ++ 0b00#2 ++ l))
  | .picOcw2Nop l => some (writeWord 0x20#16 (0b010#3 ++ 0b00#2 ++ l))
  | .picOcw2SpecificEoi l => some (writeWord 0x20#16 (0b011#3 ++ 0b00#2 ++ l))
  | .picOcw2SetRotateAeoi l => some (writeWord 0x20#16 (0b100#3 ++ 0b00#2 ++ l))
  | .picOcw2RotateNonspecificEoi l => some (writeWord 0x20#16 (0b101#3 ++ 0b00#2 ++ l))
  | .picOcw2SetPriority l => some (writeWord 0x20#16 (0b110#3 ++ 0b00#2 ++ l))
  | .picOcw2RotateSpecificEoi l => some (writeWord 0x20#16 (0b111#3 ++ 0b00#2 ++ l))
  | .picOcw3 b7 esmm smm p rr ris =>
    some (writeWord 0x20#16 (bit1 b7 ++ bit1 esmm ++ bit1 smm ++ 0b01#2 ++ bit1 p ++ bit1 rr ++ bit1 ris))
  | .picIcw2 v => some (writeWord 0x21#16 v)
  | .picIcw3 v => some (writeWord 0x21#16 v)
  | .picIcw4 b75 sfnm buf ms aeoi upm =>
    some (writeWord 0x21#16 (b75 ++ bit1 sfnm ++ bit1 buf ++ bit1 ms ++ bit1 aeoi ++ bit1 upm))
  | .picOcw1 v => some (writeWord 0x21#16 v)
  | .picReadStatus => some (readWord 0x20#16)
  | .picReadImr => some (readWord 0x21#16)
  | .pitCtlBadChannel low => some (writeWord 0x43#16 (0b11#2 ++ low))
  | .pitCtlLatchCh0 low => some (writeWord 0x43#16 (0b00#2 ++ 0b00#2 ++ low))
  | .pitCtlLatchCh1 low => some (writeWord 0x43#16 (0b01#2 ++ 0b00#2 ++ low))
  | .pitCtlLatchCh2 low => some (writeWord 0x43#16 (0b10#2 ++ 0b00#2 ++ low))
  | .pitCtlBcd ch rw m => some (writeWord 0x43#16 (ch.toBits ++ rw.toBits ++ m ++ 1#1))
  | .pitCtlSetMode0 ch rw => some (writeWord 0x43#16 (ch.toBits ++ rw.toBits ++ 0b000#3 ++ 0#1))
  | .pitCtlSetMode2 ch rw => some (writeWord 0x43#16 (ch.toBits ++ rw.toBits ++ 0b010#3 ++ 0#1))
  | .pitCtlSetMode3 ch rw => some (writeWord 0x43#16 (ch.toBits ++ rw.toBits ++ 0b011#3 ++ 0#1))
  | .pitCtlBadMode ch rw m => some (writeWord 0x43#16 (ch.toBits ++ rw.toBits ++ m ++ 0#1))
  | .pitCh0WriteLo v => some (writeWord 0x40#16 v)
  | .pitCh0WriteHi v => some (writeWord 0x40#16 v)
  | .pitCh0WriteLohiLow v => some (writeWord 0x40#16 v)
  | .pitCh0WriteLohiHigh v => some (writeWord 0x40#16 v)
  | .pitCh0ReadLatched => some (readWord 0x40#16)
  | .pitCh0ReadLive => some (readWord 0x40#16)
  | .pitCh1WriteLo v => some (writeWord 0x41#16 v)
  | .pitCh1WriteHi v => some (writeWord 0x41#16 v)
  | .pitCh1WriteLohiLow v => some (writeWord 0x41#16 v)
  | .pitCh1WriteLohiHigh v => some (writeWord 0x41#16 v)
  | .pitCh1ReadLatched => some (readWord 0x41#16)
  | .pitCh1ReadLive => some (readWord 0x41#16)
  | .pitCh2WriteLo v => some (writeWord 0x42#16 v)
  | .pitCh2WriteHi v => some (writeWord 0x42#16 v)
  | .pitCh2WriteLohiLow v => some (writeWord 0x42#16 v)
  | .pitCh2WriteLohiHigh v => some (writeWord 0x42#16 v)
  | .pitCh2ReadLatched => some (readWord 0x42#16)
  | .pitCh2ReadLive => some (readWord 0x42#16)
  | .pitCtlRead => some (readWord 0x43#16)
  | .cmosIndexWrite b7 index => some (writeWord 0x70#16 (bit1 b7 ++ index))
  | .cmosIndexRead => some (readWord 0x70#16)
  | .cmosReadSeconds => some (readWord 0x71#16)
  | .cmosReadAlarmSeconds => some (readWord 0x71#16)
  | .cmosReadMinutes => some (readWord 0x71#16)
  | .cmosReadAlarmMinutes => some (readWord 0x71#16)
  | .cmosReadHours => some (readWord 0x71#16)
  | .cmosReadAlarmHours => some (readWord 0x71#16)
  | .cmosReadWeekday => some (readWord 0x71#16)
  | .cmosReadDay => some (readWord 0x71#16)
  | .cmosReadMonth => some (readWord 0x71#16)
  | .cmosReadYear => some (readWord 0x71#16)
  | .cmosReadStatusA => some (readWord 0x71#16)
  | .cmosReadStatusB => some (readWord 0x71#16)
  | .cmosReadStatusC => some (readWord 0x71#16)
  | .cmosReadStatusD => some (readWord 0x71#16)
  | .cmosReadCentury => some (readWord 0x71#16)
  | .cmosReadFixed => some (readWord 0x71#16)
  | .cmosWriteAlarmSeconds v => some (writeWord 0x71#16 v)
  | .cmosWriteAlarmMinutes v => some (writeWord 0x71#16 v)
  | .cmosWriteAlarmHours v => some (writeWord 0x71#16 v)
  | .cmosWriteStatusA uip rega => some (writeWord 0x71#16 (bit1 uip ++ rega))
  | .cmosWriteStatusB set pie aie uie sqwe dm h24 dse =>
    some (writeWord 0x71#16
      (bit1 set ++ bit1 pie ++ bit1 aie ++ bit1 uie ++ bit1 sqwe ++ bit1 dm ++ bit1 h24 ++ bit1 dse))
  | .cmosWriteStatusCd v => some (writeWord 0x71#16 v)
  | .cmosWriteOther v => some (writeWord 0x71#16 v)
  | .hostPollAttachedDevices => none
  | .hostPollResolve => none
  | .hostPollGrant _ => none
  | .hostPushIrq _ => none
  | .hostAttach _ _ => none
  | .hostPitPollIrq => none
  | .hostCmosPollIrq => none

/-! ## Contexts -/

/-- The context in which a channel's row is the one decoded: the columns fields.context of the opcode table. -/
def ChanCtx.writesLo (c : ChanCtx) : Bool := c.access == .lo
def ChanCtx.writesHi (c : ChanCtx) : Bool := c.access == .hi
def ChanCtx.writesLow (c : ChanCtx) : Bool := c.access == .lohi && c.cursor == .low
def ChanCtx.writesHigh (c : ChanCtx) : Bool := c.access == .lohi && c.cursor == .high

/-- Does the context select this row among the rows that share its word? (fields.context of the opcode table,
30_encoding R91). A row with no context of its own is selected in every context. -/
def Ctx.selects (c : Ctx) : Instr → Bool
  | .picIcw2 _ => c.init == .waitIcw2
  | .picIcw3 _ => c.init == .waitIcw3
  | .picIcw4 _ _ _ _ _ _ => c.init == .waitIcw4
  | .picOcw1 _ => c.init == .idle
  | .pitCh0WriteLo _ => c.ch0.writesLo
  | .pitCh0WriteHi _ => c.ch0.writesHi
  | .pitCh0WriteLohiLow _ => c.ch0.writesLow
  | .pitCh0WriteLohiHigh _ => c.ch0.writesHigh
  | .pitCh0ReadLatched => decide (0 < c.ch0.latchLeft)
  | .pitCh0ReadLive => decide (c.ch0.latchLeft = 0)
  | .pitCh1WriteLo _ => c.ch1.writesLo
  | .pitCh1WriteHi _ => c.ch1.writesHi
  | .pitCh1WriteLohiLow _ => c.ch1.writesLow
  | .pitCh1WriteLohiHigh _ => c.ch1.writesHigh
  | .pitCh1ReadLatched => decide (0 < c.ch1.latchLeft)
  | .pitCh1ReadLive => decide (c.ch1.latchLeft = 0)
  | .pitCh2WriteLo _ => c.ch2.writesLo
  | .pitCh2WriteHi _ => c.ch2.writesHi
  | .pitCh2WriteLohiLow _ => c.ch2.writesLow
  | .pitCh2WriteLohiHigh _ => c.ch2.writesHigh
  | .pitCh2ReadLatched => decide (0 < c.ch2.latchLeft)
  | .pitCh2ReadLive => decide (c.ch2.latchLeft = 0)
  | .cmosReadSeconds => c.index == 0x00#7
  | .cmosReadAlarmSeconds => c.index == 0x01#7
  | .cmosReadMinutes => c.index == 0x02#7
  | .cmosReadAlarmMinutes => c.index == 0x03#7
  | .cmosReadHours => c.index == 0x04#7
  | .cmosReadAlarmHours => c.index == 0x05#7
  | .cmosReadWeekday => c.index == 0x06#7
  | .cmosReadDay => c.index == 0x07#7
  | .cmosReadMonth => c.index == 0x08#7
  | .cmosReadYear => c.index == 0x09#7
  | .cmosReadStatusA => c.index == 0x0A#7
  | .cmosReadStatusB => c.index == 0x0B#7
  | .cmosReadStatusC => c.index == 0x0C#7
  | .cmosReadStatusD => c.index == 0x0D#7
  | .cmosReadCentury => c.index == 0x32#7
  | .cmosReadFixed => romIndex c.index.toNat
  | .cmosWriteAlarmSeconds _ => c.index == 0x01#7
  | .cmosWriteAlarmMinutes _ => c.index == 0x03#7
  | .cmosWriteAlarmHours _ => c.index == 0x05#7
  | .cmosWriteStatusA _ _ => c.index == 0x0A#7
  | .cmosWriteStatusB _ _ _ _ _ _ _ _ => c.index == 0x0B#7
  | .cmosWriteStatusCd _ => c.index == 0x0C#7 || c.index == 0x0D#7
  | .cmosWriteOther _ =>
    !(c.index == 0x01#7 || c.index == 0x03#7 || c.index == 0x05#7 || c.index == 0x0A#7 || c.index == 0x0B#7 ||
      c.index == 0x0C#7 || c.index == 0x0D#7)
  | _ => true

end Sys2Proof
end

