-- ==== Sys2Proof/Machine/State.lean ====
section
/-!
DEFINITION. The state of the block as plain data (10_state), with the parameters and inputs of a step beside it, the
reasons a step can stop, and the state after reset.
-/

namespace Sys2Proof.Machine

/-- Why the machine stops with a fault: never. "A model therefore has no fault outcome for any access to the block"
(40_port_contract R136, 60_exceptions R280), so the type has no constructor. -/
inductive Fault
deriving DecidableEq, Repr

/-- Why a step is refused. -/
inductive Refusal where
  /-- Raised by an arm of `exec` for an instruction that has no meaning yet; no arm raises it now. Safe: the machine
  stops where the block goes on. -/
  | notModelled (mnemonic : String)
deriving DecidableEq, Repr

/-- The diagnostic codes (60_exceptions R281). -/
inductive DiagCode where
  | badSize
  | unmapped
  | roWrite
  | woRead
  | picSmm
  /-- Listed and never raised (30_encoding R116). -/
  | picBadCmd
  | pitBcd
  | pitBadMode
  | pitBadChannel
  | irqRange
deriving DecidableEq, Repr

/-- A record of the diagnostic log; the port is `none` for host calls (60_exceptions R281). -/
structure Diag where
  code : DiagCode
  port : Option Port
deriving DecidableEq, Repr

/-- The PIC (10_state R23 to R34). -/
structure Pic where
  /-- R23: bit i is 1 when IRQ i has a pending request. -/
  irr : Byte
  /-- R24: bit i is 1 when IRQ i has been delivered and not yet ended. -/
  isr : Byte
  /-- R25: bit i is 1 when IRQ i is masked. -/
  imr : Byte
  /-- R26 -/
  base : Irq
  /-- R27 -/
  init : InitState
  /-- R28 -/
  cascade : Bool
  /-- R29 -/
  icw4 : Bool
  /-- R30 -/
  aeoi : Bool
  /-- R31 -/
  rot : Bool
  /-- R32: false selects IRR, true ISR. -/
  readIsr : Bool
  /-- R33 -/
  vbase : Byte
  /-- R34 -/
  attached : Vector (Option Device) 8
deriving DecidableEq, Repr

/-- One PIT channel (10_state R36 to R44). -/
structure Channel where
  /-- R36 -/
  reload : Count
  /-- R37: 0 to 65536, which 16 bits do not hold. -/
  cur : Nat
  /-- R38 -/
  mode : PitMode
  /-- R39 -/
  access : Access
  /-- R40 -/
  running : Bool
  /-- R41 -/
  out : Bool
  /-- R42 -/
  latchVal : Count
  /-- R42: 0, 1 or 2 (R46). -/
  latchLeft : Nat
  /-- R43 -/
  cursor : Cursor
  /-- R44 -/
  edge : Bool
deriving DecidableEq, Repr

/-- The PIT: three channels and the time of the last reconciliation (10_state R20, R45). -/
structure Pit where
  ch0 : Channel
  ch1 : Channel
  ch2 : Channel
  /-- R45, nanoseconds of `MONO_NOW`. -/
  last : Nat
deriving DecidableEq, Repr

/-- The CMOS/RTC (10_state R47 to R54). -/
structure Cmos where
  /-- R47 -/
  index : BitVec 7
  /-- R48: true is binary, false is BCD. -/
  binary : Bool
  /-- R48: true is 24-hour, false is 12-hour. -/
  h24 : Bool
  /-- R49 -/
  pie : Bool
  aie : Bool
  uie : Bool
  /-- R50 -/
  pf : Bool
  af : Bool
  uf : Bool
  /-- R51 -/
  alarmS : Byte
  alarmM : Byte
  alarmH : Byte
  /-- R52: bits 6:0 of status register A. -/
  rega : BitVec 7
  /-- R53 -/
  line : Bool
  /-- R54 -/
  lastWall : Wall
  lastMono : Nat
deriving DecidableEq, Repr

/-- The inputs of a step (00_scope R6, R7; 20_memory R73): `MONO_NOW`, `WALL_NOW`, and `EXT_POLL`, the answer of the
external device polled on line i being bit i (log 2). -/
structure Inputs where
  mono : Nat
  wall : Wall
  ext : Byte
deriving DecidableEq, Repr

/-- An operation the environment issues, with the inputs of its step (20_memory R73; log 1). -/
structure Request where
  call : Call
  inp : Inputs
deriving DecidableEq, Repr

/-- What an operation hands back to its caller (log 7). -/
inductive Ret where
  | nothing
  /-- The byte a read ends with (00_scope R9). -/
  | byte (b : Byte)
  /-- The answer of a device's `poll_irq` (40_port_contract R135). -/
  | asserted (b : Bool)
  /-- The winner of a resolution, or `none` (41_pic R163). -/
  | winner (i : Option Irq)
  /-- The vector the PIC's poll delivers, or `none` (41_pic R164). -/
  | vector (v : Option Byte)
deriving DecidableEq, Repr

/-- The machine: the tuple of 10_state R20, and after it what the model adds so that `step` needs no argument: the
parameters (log 3), the inputs of the step being run (log 2), the operations still to run (log 1), what the last one
handed back and the vectors delivered to the CPU so far (log 7), and how many free bytes have been drawn (log 5). -/
structure State where
  pic : Pic
  pit : Pit
  cmos : Cmos
  /-- R60, oldest record first. -/
  diag : List Diag
  params : Params
  inp : Inputs
  pending : List Request
  ret : Ret
  /-- The vectors handed to `external_interrupt` (41_pic R164), oldest first. -/
  delivered : List Byte
  draws : Nat
deriving DecidableEq, Repr

/-- A PIT channel after reset (10_state R36 to R44, R61). -/
def Channel.reset : Channel where
  reload := 0#16
  cur := 0
  mode := .mode3
  access := .lohi
  running := false
  out := true
  latchVal := 0#16
  latchLeft := 0
  cursor := .low
  edge := false

/-- The PIC after reset (10_state R23 to R34, R61). -/
def Pic.reset (p : Params) : Pic where
  irr := 0x00#8
  isr := 0x00#8
  imr := 0x00#8
  base := 0#3
  init := .idle
  cascade := false
  icw4 := false
  aeoi := false
  rot := false
  readIsr := false
  vbase := p.resetVectorBase
  attached := p.irqMap

/-- The PIT after reset (10_state R36 to R45, R61). -/
def Pit.reset (mono : Nat) : Pit where
  ch0 := Channel.reset
  ch1 := Channel.reset
  ch2 := Channel.reset
  last := mono

/-- The CMOS/RTC after reset (10_state R47 to R54, R61). -/
def Cmos.reset (p : Params) (mono : Nat) (wall : Wall) : Cmos where
  index := 0x00#7
  binary := true
  h24 := true
  pie := false
  aie := false
  uie := false
  pf := false
  af := false
  uf := false
  alarmS := 0x00#8
  alarmM := 0x00#8
  alarmH := 0x00#8
  rega := p.statusAReset.extractLsb' 0 7
  line := false
  lastWall := wall
  lastMono := mono

/-- Construction, which is reset (70_reset_and_hazards R310), for any parameters and any `T0`. -/
def State.construct (p : Params) (mono : Nat) (wall : Wall) : State where
  pic := Pic.reset p
  pit := Pit.reset mono
  cmos := Cmos.reset p mono wall
  diag := []
  params := p
  inp := ⟨mono, wall, 0x00#8⟩
  pending := []
  ret := .nothing
  delivered := []
  draws := 0

/-- The wall clock 95_test_vectors section 0 takes by default: 2026-11-11, a Wednesday, 13:05:09 (log 4). -/
def defaultWall : Wall where
  year := 2026
  month := 11
  day := 11
  wday := 3
  hour := 13
  min := 5
  sec := 9

/-- The machine right after reset: construction with the default parameters of 00_scope R6 and the `T0` of log 4. -/
def State.reset : State := State.construct Params.default 0 defaultWall

end Sys2Proof.Machine
end

