-- ==== Sys2Proof/Machine/Operands.lean ====
section
/-!
DEFINITION. How operands and result values are formed: bits of the PIC registers, ranks and vectors, the bytes of a PIT
count and the tick conversion, and the CMOS encodings and status bytes.
-/

namespace Sys2Proof.Machine

/-! ## PIC registers, ranks and vectors -/

/-- Bit i of a PIC register. -/
def irqBit (r : Byte) (i : Irq) : Bool := r.getLsbD i.toNat

/-- The register with bit i set. -/
def setIrq (r : Byte) (i : Irq) : Byte := r ||| (1#8 <<< i.toNat)

/-- The register with bit i clear. -/
def clearIrq (r : Byte) (i : Irq) : Byte := r &&& ~~~(1#8 <<< i.toNat)

/-- The eight lines in ascending order (00_scope R5). -/
def irqLines : List Irq := [0#3, 1#3, 2#3, 3#3, 4#3, 5#3, 6#3, 7#3]

/-- `rank(i) = (i - base) mod 8`, 0 the highest priority (41_pic R140). -/
def rank (base i : Irq) : Nat := (i - base).toNat

/-- `top(S)`: the member of the set of least rank, by the scan that visits `(base + r) mod 8` for r = 0, 1, ..., 7
(41_pic R140). -/
def top (base : Irq) (set : Byte) : Option Irq := (irqLines.map (fun r => base + r)).find? (irqBit set)

/-- `vector(i) = trunc_8(vbase + i)` (41_pic R141). -/
def irqVector (vbase : Byte) (i : Irq) : Byte := vbase + i.setWidth 8

/-- The device attached to line i (10_state R34). -/
def deviceAt (t : Vector (Option Device) 8) (i : Irq) : Option Device := t[i.toNat]'(i.isLt)

/-- The table with `dev` on line i (41_pic R165). -/
def setDevice (t : Vector (Option Device) 8) (i : Irq) (dev : Device) : Vector (Option Device) 8 :=
  t.set i.toNat (some dev) i.isLt

/-! ## PIT counts and ticks -/

/-- `eff(r)`: a reload of 0 counts as 65536 (42_pit R180). -/
def eff (r : Count) : Nat := if r = 0#16 then 65536 else r.toNat

/-- `half(N) = N div 2` (42_pit R181). -/
def half (n : Nat) : Nat := n / 2

/-- `T(t) = (t * 1193182) div 1000000000` (42_pit R182). -/
def ticksAt (t : Nat) : Nat := t * 1193182 / 1000000000

/-- Bits 7:0 of a count. -/
def lowByte (v : Count) : Byte := v.extractLsb' 0 8

/-- Bits 15:8 of a count. -/
def highByte (v : Count) : Byte := v.extractLsb' 8 8

/-- `trunc_16(cur)`: 65536 reads as 0 (42_pit R187, R197). -/
def countOf (cur : Nat) : Count := BitVec.ofNat 16 cur

/-! ## CMOS encodings -/

/-- `enc(n)` as a number, before it is put in a byte (43_cmos_rtc R233). -/
def encValue (binary : Bool) (n : Nat) : Nat :=
  if binary then n else (n / 10) * 16 + n % 10

/-- `enc(n)` (43_cmos_rtc R233). For n in 0..99 the value fits a byte; beyond that only a host that breaks its duty
leads, and where no byte holds the value the byte is free (I10; log 6). -/
def enc (binary : Bool) (n : Nat) : Byte :=
  if encValue binary n < 256 then BitVec.ofNat 8 (encValue binary n) else Config.encOverflow (encValue binary n)

/-- `dec(b)` (43_cmos_rtc R233). -/
def dec (binary : Bool) (b : Byte) : Nat :=
  if binary then b.toNat else (b.extractLsb' 4 4).toNat * 10 + (b.extractLsb' 0 4).toNat

/-- The 1-to-12 hour of 12-hour mode (43_cmos_rtc R234). -/
def hour12 (h : Nat) : Nat := if h % 12 = 0 then 12 else h % 12

/-- `enc_hour(h)` (43_cmos_rtc R234). -/
def encHour (binary h24 : Bool) (h : Nat) : Byte :=
  if h24 then enc binary h else enc binary (hour12 h) ||| (if 12 ≤ h then 0x80#8 else 0x00#8)

/-- `dec_hour(b)` (43_cmos_rtc R234). -/
def decHour (binary h24 : Bool) (b : Byte) : Nat :=
  if h24 then dec binary b else dec binary (b &&& 0x7F#8) % 12 + (if b.getLsbD 7 then 12 else 0)

/-- A flag as bit `k` of a byte. -/
def flagAt (b : Bool) (k : Nat) : Byte := (BitVec.ofBool b).setWidth 8 <<< k

/-- The byte at an index of the fixed-byte table: 0x00 where none is listed (10_state R55). -/
def romRead : Rom → Nat → Byte
  | [], _ => 0x00#8
  | c :: rest, n => if c.1 = n then c.2 else romRead rest n

/-- The byte status register A reads: UIP is 0 (43_cmos_rtc R247). -/
def statusA (c : Cmos) : Byte := 0#1 ++ c.rega

/-- The byte status register B reads (43_cmos_rtc R248). -/
def statusB (c : Cmos) : Byte :=
  flagAt c.pie 6 ||| flagAt c.aie 5 ||| flagAt c.uie 4 ||| flagAt c.binary 2 ||| flagAt c.h24 1

/-- The byte status register D reads (43_cmos_rtc R250). -/
def statusD : Byte := 0x80#8

end Sys2Proof.Machine
end

