-- ==== Sys2Proof/Machine/Flags.lean ====
section
/-!
DEFINITION. Every flag the block computes: the candidates and the winner of a resolution, the PIT's output toggles, and
the CMOS's interrupt flags, its IRQF and status byte C.
-/

namespace Sys2Proof.Machine

/-! ## PIC resolution -/

/-- Pending requests on unmasked lines (41_pic R163). -/
def Pic.candidates (p : Pic) : Byte := p.irr &&& ~~~p.imr

/-- `top_isr()` (41_pic R144). -/
def Pic.topIsr (p : Pic) : Option Irq := top p.base p.isr

/-- Does what is in service hold the request back? (41_pic R163): under single nesting anything in service does; under
fully nested, an IRQ of the same or a higher rank does. -/
def Pic.blocked (p : Pic) (nesting : Nesting) (best : Irq) : Bool :=
  match nesting with
  | .single => p.isr != 0x00#8
  | .fullyNested => irqLines.any (fun j => irqBit p.isr j && decide (rank p.base j ≤ rank p.base best))

/-- The winner of phase 2 of the poll, or `none` (41_pic R163). -/
def Pic.resolve (p : Pic) (nesting : Nesting) : Option Irq :=
  match top p.base p.candidates with
  | none => none
  | some best => if p.blocked nesting best then none else some best

/-! ## PIT output -/

/-- Does a mode-3 count that goes from `c` down to `c'` cross the half of `n`? (42_pit R181, R184) -/
def crossesHalf (n c c' : Nat) : Bool := decide (half n < c) && decide (c' ≤ half n)

/-! ## CMOS interrupt flags -/

/-- `rate(rs)` in Hz (43_cmos_rtc R260). -/
def periodicRate (rs : BitVec 4) : Nat :=
  if rs = 0#4 then 0 else if rs = 1#4 then 256 else if rs = 2#4 then 128 else 32768 >>> (rs.toNat - 1)

/-- The rate that status register A selects: RS is its bits 3:0 (43_cmos_rtc R260). -/
def Cmos.rate (c : Cmos) : Nat := periodicRate (c.rega.extractLsb' 0 4)

/-- Does a period boundary fall in (last_mono, m]? (43_cmos_rtc R263) -/
def Cmos.periodDue (c : Cmos) (m : Nat) : Bool :=
  decide (0 < c.rate) && decide (c.lastMono < m) &&
  decide (c.lastMono * c.rate / 1000000000 < m * c.rate / 1000000000)

/-- Has the clock been updated since the last poll? (43_cmos_rtc R261) -/
def Cmos.updated (c : Cmos) (w : Wall) : Bool := w != c.lastWall

/-- `match(a, x)`: 0xC0 to 0xFF match anything (43_cmos_rtc R262). -/
def alarmField (a x : Byte) : Bool := decide (0xC0 ≤ a.toNat) || a == x

/-- The alarm comparator, in the current mode (43_cmos_rtc R262). -/
def Cmos.alarmMatches (c : Cmos) (w : Wall) : Bool :=
  alarmField c.alarmS (enc c.binary w.sec) && alarmField c.alarmM (enc c.binary w.min) &&
  alarmField c.alarmH (encHour c.binary c.h24 w.hour)

/-- IRQF (30_encoding R112). -/
def Cmos.irqf (c : Cmos) : Bool := (c.pie && c.pf) || (c.aie && c.af) || (c.uie && c.uf)

/-- The byte status register C reads (30_encoding R112, 43_cmos_rtc R249). -/
def statusC (c : Cmos) : Byte := flagAt c.irqf 7 ||| flagAt c.pf 6 ||| flagAt c.af 5 ||| flagAt c.uf 4

end Sys2Proof.Machine
end

