-- ==== Sys2Proof/Machine/Ops.lean ====
section
/-!
DEFINITION. The named operations over the block's registers that the meanings share: diagnostics and results, the PIC's
end-of-interrupt, request, resolution and grant (the block's part of taking an interrupt and of returning from one), the
PIT's counting, latching and data bytes, and the CMOS's status and poll.
-/

namespace Sys2Proof.Machine

/-! ## Diagnostics and results (00_scope R9) -/

/-- `raise Diag(code, port)`: append a record and continue (00_scope R9). -/
def State.raise (s : State) (code : DiagCode) (port : Option Port) : State :=
  { s with diag := s.diag ++ [⟨code, port⟩] }

/-- `return v`: end a read with byte v (00_scope R9). -/
def State.reply (s : State) (b : Byte) : State := { s with ret := .byte b }

/-- `return NOVALUE`: end a read with the next free byte (00_scope R9, D49; log 5). -/
def State.replyNoValue (s : State) : State :=
  { s with ret := .byte (Config.noValue s.draws), draws := s.draws + 1 }

/-- Read of a write-only register: diagnosed, and the byte is `NOVALUE` (40_port_contract R133). -/
def State.rejectRead (s : State) (code : DiagCode) (port : Port) : State :=
  (s.raise code (some port)).replyNoValue

/-! ## PIC: end of interrupt -/

/-- `clear_ns()`: every in-service bit under single nesting, the highest-ranked one under fully nested
(41_pic R144, D12). -/
def Pic.clearNs (p : Pic) (nesting : Nesting) : Pic :=
  match nesting with
  | .single => { p with isr := 0x00#8 }
  | .fullyNested =>
    match p.topIsr with
    | none => p
    | some j => { p with isr := clearIrq p.isr j }

/-- `pic.base <- (i + 1) mod 8`: IRQ i becomes the lowest (41_pic R150 to R152, D9). -/
def Pic.rotatePast (p : Pic) (i : Irq) : Pic := { p with base := i + 1#3 }

/-- Rotation on a non-specific EOI: past the IRQ just ended, if there is one (41_pic R150). -/
def Pic.rotatePastTop (p : Pic) (ended : Option Irq) : Pic :=
  match ended with
  | none => p
  | some j => p.rotatePast j

/-! ## PIC: requests -/

/-- The request a line of the PIC takes: dropped when the line is masked (41_pic R161). -/
def Pic.request (p : Pic) (i : Irq) : Pic := if irqBit p.imr i then p else { p with irr := setIrq p.irr i }

/-- `push_irq(n)` (41_pic R161). -/
def State.pushIrq (s : State) (n : Nat) : State :=
  if 8 ≤ n then s.raise .irqRange none else { s with pic := s.pic.request (BitVec.ofNat 3 n) }

/-! ## PIC: taking an interrupt -/

/-- The registers a grant writes (41_pic R164): the IRR bit goes; without AEOI the ISR bit is set, with AEOI the base
rotates if rotation is on. -/
def Pic.grant (p : Pic) (i : Irq) : Pic :=
  if p.aeoi then
    if p.rot then { p with irr := clearIrq p.irr i, base := i + 1#3 } else { p with irr := clearIrq p.irr i }
  else { p with irr := clearIrq p.irr i, isr := setIrq p.isr i }

/-- `deliver(vector)`: the call `external_interrupt(vector)` into the CPU (00_scope R9, 41_pic R164; log 16). -/
def State.deliver (s : State) (v : Byte) : State := { s with delivered := s.delivered ++ [v] }

/-- Grant and deliver (41_pic R164, 60_exceptions R287): the block's part of taking an interrupt. -/
def State.grant (s : State) (i : Irq) : State :=
  { ({ s with pic := s.pic.grant i } : State).deliver (irqVector s.pic.vbase i) with
    ret := .vector (some (irqVector s.pic.vbase i)) }

/-! ## PIT: counting -/

/-- One tick of a channel (42_pit R184; log 13). -/
def Channel.tick1 (c : Channel) : Channel :=
  if c.running then
    let n := eff c.reload
    let pre := c.cur - 1
    let out := if c.mode = .mode3 && crossesHalf n c.cur pre then !c.out else c.out
    if pre = 0 then
      match c.mode with
      | .mode0 => { c with edge := true, out := true, running := false, cur := 0 }
      | .mode2 => { c with edge := true, out := out, cur := n }
      | .mode3 => { c with edge := true, out := !out, cur := n }
    else { c with out := out, cur := pre }
  else c

/-- `tick1` applied n times: what folding n ticks means (42_pit R185). -/
def Channel.ticks (c : Channel) : Nat → Channel
  | 0 => c
  | n + 1 => Channel.ticks c.tick1 n

/-- A count of reload `n` that is `c` ticks from its crossing, `k` ticks later, k being at least c
(42_pit R185: `N - ((n - C) mod N)`). -/
def countAfter (n c k : Nat) : Nat := n - (k - c) % n

/-- Folding n ticks in closed form (42_pit R185). In mode 3 the output toggles at every crossing of the half and of
zero. Past the first zero, whole cycles toggle it twice, so what remains is the way to the first zero, that zero, and
the way from the last reload (log 12). -/
def Channel.fold (c : Channel) (k : Nat) : Channel :=
  if c.running then
    let n := eff c.reload
    if k < c.cur then
      { c with cur := c.cur - k
               out := if c.mode = .mode3 && crossesHalf n c.cur (c.cur - k) then !c.out else c.out }
    else
      match c.mode with
      | .mode0 => { c with cur := 0, running := false, out := true, edge := true }
      | .mode2 => { c with cur := countAfter n c.cur k, edge := true }
      | .mode3 =>
        { c with cur := countAfter n c.cur k
                 out := (c.out ^^ crossesHalf n c.cur 0) ^^ (true ^^ crossesHalf n n (countAfter n c.cur k))
                 edge := true }
  else c

/-- `reconcile(now)` (42_pit R183). -/
def Pit.reconcile (p : Pit) (now : Nat) : Pit :=
  if now ≤ p.last then p
  else
    { ch0 := p.ch0.fold (ticksAt now - ticksAt p.last)
      ch1 := p.ch1.fold (ticksAt now - ticksAt p.last)
      ch2 := p.ch2.fold (ticksAt now - ticksAt p.last)
      last := now }

/-- `start(ch)` (42_pit R194). -/
def Channel.start (c : Channel) : Channel :=
  { c with cur := eff c.reload, running := true, out := !(c.mode == .mode0) }

/-! ## PIT: commands and data bytes -/

/-- The latch-count command (42_pit R187). -/
def Channel.latch (c : Channel) : Channel :=
  if c.latchLeft = 0 then
    { c with latchVal := countOf c.cur, latchLeft := if c.access = .lohi then 2 else 1 }
  else c

/-- The mode-setting control word (42_pit R188). -/
def Channel.setMode (c : Channel) (m : PitMode) (rw : Access) : Channel :=
  { c with mode := m, access := rw, reload := 0#16, cur := 0, running := false, out := true, cursor := .low,
           latchLeft := 0 }

/-- A write in `LO` access mode (42_pit R190). -/
def Channel.writeLo (c : Channel) (v : Byte) : Channel := ({ c with reload := v.setWidth 16 } : Channel).start

/-- A write in `HI` access mode (42_pit R191). -/
def Channel.writeHi (c : Channel) (v : Byte) : Channel := ({ c with reload := v ++ 0x00#8 } : Channel).start

/-- The low byte in `LOHI` access mode (42_pit R192). -/
def Channel.writeLow (c : Channel) (v : Byte) : Channel :=
  { c with reload := highByte c.reload ++ v, cursor := .high }

/-- The high byte in `LOHI` access mode (42_pit R193). -/
def Channel.writeHigh (c : Channel) (v : Byte) : Channel :=
  ({ c with reload := v ++ lowByte c.reload, cursor := .low } : Channel).start

/-- The byte of `val` that a read returns, by access mode and cursor (42_pit R196, R197). -/
def Channel.readByte (c : Channel) (val : Count) : Byte :=
  match c.access, c.cursor with
  | .lo, _ => lowByte val
  | .hi, _ => highByte val
  | .lohi, .low => lowByte val
  | .lohi, .high => highByte val

/-- The cursor after a read: it alternates in `LOHI` access mode only (42_pit R196, R197). -/
def Channel.cursorAfterRead (c : Channel) : Cursor :=
  match c.access, c.cursor with
  | .lo, k => k
  | .hi, k => k
  | .lohi, .low => .high
  | .lohi, .high => .low

/-- A latched read: the byte, and the channel after it (42_pit R196). -/
def Channel.readLatched (c : Channel) : Byte × Channel :=
  (c.readByte c.latchVal, { c with cursor := c.cursorAfterRead, latchLeft := c.latchLeft - 1 })

/-- A live read: the byte, and the channel after it (42_pit R197). -/
def Channel.readLive (c : Channel) : Byte × Channel :=
  (c.readByte (countOf c.cur), { c with cursor := c.cursorAfterRead })

/-- Channel k. -/
def Pit.chan (p : Pit) : PitChan → Channel
  | .ch0 => p.ch0
  | .ch1 => p.ch1
  | .ch2 => p.ch2

/-- The PIT with channel k replaced. -/
def Pit.setChan (p : Pit) (k : PitChan) (c : Channel) : Pit :=
  match k with
  | .ch0 => { p with ch0 := c }
  | .ch1 => { p with ch1 := c }
  | .ch2 => { p with ch2 := c }

/-- The time reconciliation every PIT operation starts with (42_pit R183). -/
def State.reconciled (s : State) : State := { s with pit := s.pit.reconcile s.inp.mono }

/-- Reconcile, then change channel k (42_pit R186, R189). -/
def State.onChannel (s : State) (k : PitChan) (f : Channel → Channel) : State :=
  { s with pit := (s.pit.reconcile s.inp.mono).setChan k (f ((s.pit.reconcile s.inp.mono).chan k)) }

/-- Reconcile, then read channel k: the byte goes to the reader (42_pit R195). -/
def State.readChannel (s : State) (k : PitChan) (f : Channel → Byte × Channel) : State :=
  { s with pit := (s.pit.reconcile s.inp.mono).setChan k (f ((s.pit.reconcile s.inp.mono).chan k)).2
           ret := .byte (f ((s.pit.reconcile s.inp.mono).chan k)).1 }

/-- A rejected control word: the reconciliation before it runs, and a diagnostic is appended (42_pit R186; log 15). -/
def State.rejectControl (s : State) (code : DiagCode) : State := s.reconciled.raise code (some 0x43#16)

/-- The PIT's `poll_irq`: channel 0's edge latch, which it clears (42_pit R199). -/
def Pit.poll (p : Pit) (now : Nat) : Bool × Pit :=
  ((p.reconcile now).ch0.edge,
   { p.reconcile now with ch0 := { (p.reconcile now).ch0 with edge := false } })

/-! ## CMOS -/

/-- The flags and the line after a status-C read (43_cmos_rtc R249). -/
def Cmos.clearFlags (c : Cmos) : Cmos := { c with pf := false, af := false, uf := false, line := false }

/-- The flags after the three sources are evaluated, and the times of this poll (43_cmos_rtc R261 to R264). -/
def Cmos.sample (c : Cmos) (w : Wall) (m : Nat) : Cmos :=
  { c with uf := c.uf || c.updated w
           af := c.af || (c.updated w && c.alarmMatches w)
           pf := c.pf || c.periodDue m
           lastWall := w
           lastMono := if c.lastMono < m then m else c.lastMono }

/-- The CMOS's `poll_irq`: true when IRQF rises (43_cmos_rtc R264). -/
def Cmos.poll (c : Cmos) (w : Wall) (m : Nat) : Bool × Cmos :=
  ((c.sample w m).irqf && !c.line, { c.sample w m with line := (c.sample w m).irqf })

/-! ## Polling the attached devices -/

/-- `poll_irq` of the device on line i: its answer, and the state after it (41_pic R162). -/
def State.pollDevice (s : State) (i : Irq) : Bool × State :=
  match deviceAt s.pic.attached i with
  | none => (false, s)
  | some .pit => ((s.pit.poll s.inp.mono).1, { s with pit := (s.pit.poll s.inp.mono).2 })
  | some .cmos =>
    ((s.cmos.poll s.inp.wall s.inp.mono).1, { s with cmos := (s.cmos.poll s.inp.wall s.inp.mono).2 })
  | some (.ext _) => (irqBit s.inp.ext i, s)

/-- Poll the device on line i, and raise the line's request if it asks for it (41_pic R162). -/
def State.pollLine (s : State) (i : Irq) : State :=
  if (s.pollDevice i).1 then (s.pollDevice i).2.pushIrq i.toNat else (s.pollDevice i).2

/-- Phase 1 of the PIC's poll: the lines in ascending order (41_pic R162, D14). -/
def State.pollLines (s : State) : State := irqLines.foldl State.pollLine s

/-! ## The decode context -/

/-- The part of a channel the decoder reads (30_encoding R91). -/
def Channel.ctx (c : Channel) : ChanCtx := ⟨c.access, c.cursor, c.latchLeft⟩

/-- The decode context of a state (30_encoding R91). -/
def State.ctx (s : State) : Ctx := ⟨s.pic.init, s.cmos.index, s.pit.ch0.ctx, s.pit.ch1.ctx, s.pit.ch2.ctx⟩

end Sys2Proof.Machine
end

