-- ==== Sys2Proof/Machine/CmosRegs.lean ====
section
/-!
DEFINITION. The meanings of the CMOS address port 0x70 and of the stored registers behind 0x71: alarm bytes, status
registers A to D, the fixed bytes, and the writes that change nothing.
-/

namespace Sys2Proof.Machine

/-- Address-port write (43_cmos_rtc R230): bit 7 is dropped. -/
def execCmosIndexWrite (_b7 : Bool) (index : BitVec 7) (s : State) : Host.Outcome State Fault Refusal :=
  .next { s with cmos := { s.cmos with index := index } }

/-- Address-port read (43_cmos_rtc R231). -/
def execCmosIndexRead (s : State) : Host.Outcome State Fault Refusal := .next (s.rejectRead .woRead 0x70#16)

/-- Alarm-seconds read (43_cmos_rtc R244). -/
def execCmosReadAlarmSeconds (s : State) : Host.Outcome State Fault Refusal := .next (s.reply s.cmos.alarmS)

/-- Alarm-minutes read (43_cmos_rtc R245). -/
def execCmosReadAlarmMinutes (s : State) : Host.Outcome State Fault Refusal := .next (s.reply s.cmos.alarmM)

/-- Alarm-hours read (43_cmos_rtc R246). -/
def execCmosReadAlarmHours (s : State) : Host.Outcome State Fault Refusal := .next (s.reply s.cmos.alarmH)

/-- Status-A read (43_cmos_rtc R247). -/
def execCmosReadStatusA (s : State) : Host.Outcome State Fault Refusal := .next (s.reply (statusA s.cmos))

/-- Status-B read (43_cmos_rtc R248). -/
def execCmosReadStatusB (s : State) : Host.Outcome State Fault Refusal := .next (s.reply (statusB s.cmos))

/-- Status-C read (43_cmos_rtc R249): the three pending flags and the line are cleared. -/
def execCmosReadStatusC (s : State) : Host.Outcome State Fault Refusal :=
  .next { s.reply (statusC s.cmos) with cmos := s.cmos.clearFlags }

/-- Status-D read (43_cmos_rtc R250). -/
def execCmosReadStatusD (s : State) : Host.Outcome State Fault Refusal := .next (s.reply statusD)

/-- Fixed-byte read (43_cmos_rtc R251): `CMOS_ROM[index]`. -/
def execCmosReadFixed (s : State) : Host.Outcome State Fault Refusal :=
  .next (s.reply (romRead s.params.cmosRom s.cmos.index.toNat))

/-- Alarm-seconds write (43_cmos_rtc R253). -/
def execCmosWriteAlarmSeconds (v : Byte) (s : State) : Host.Outcome State Fault Refusal :=
  .next { s with cmos := { s.cmos with alarmS := v } }

/-- Alarm-minutes write (43_cmos_rtc R254). -/
def execCmosWriteAlarmMinutes (v : Byte) (s : State) : Host.Outcome State Fault Refusal :=
  .next { s with cmos := { s.cmos with alarmM := v } }

/-- Alarm-hours write (43_cmos_rtc R255). -/
def execCmosWriteAlarmHours (v : Byte) (s : State) : Host.Outcome State Fault Refusal :=
  .next { s with cmos := { s.cmos with alarmH := v } }

/-- Status-A write (43_cmos_rtc R256): UIP is ignored. -/
def execCmosWriteStatusA (_uip : Bool) (rega : BitVec 7) (s : State) : Host.Outcome State Fault Refusal :=
  .next { s with cmos := { s.cmos with rega := rega } }

/-- Status-B write (43_cmos_rtc R257): SET, SQWE and DSE are ignored. -/
def execCmosWriteStatusB (_set pie aie uie _sqwe dm h24 _dse : Bool) (s : State) :
    Host.Outcome State Fault Refusal :=
  .next { s with cmos := { s.cmos with pie := pie, aie := aie, uie := uie, binary := dm, h24 := h24 } }

/-- Status-C or status-D write (43_cmos_rtc R258, 40_port_contract R132). -/
def execCmosWriteStatusCd (_v : Byte) (s : State) : Host.Outcome State Fault Refusal :=
  .next (s.raise .roWrite (some 0x71#16))

/-- Any other write: a no-op (43_cmos_rtc R259). -/
def execCmosWriteOther (_v : Byte) (s : State) : Host.Outcome State Fault Refusal := .next s

end Sys2Proof.Machine
end

