-- ==== Sys2Proof/Machine/CmosTime.lean ====
section
/-!
DEFINITION. The meanings of the time-field reads of the CMOS/RTC: "pull the corresponding component from the host wall
clock at read time and apply binary-or-BCD and 12h-or-24h encoding" (43_cmos_rtc section 3).
-/

namespace Sys2Proof.Machine

/-- Seconds read (43_cmos_rtc R236). -/
def execCmosReadSeconds (s : State) : Host.Outcome State Fault Refusal :=
  .next (s.reply (enc s.cmos.binary s.inp.wall.sec))

/-- Minutes read (43_cmos_rtc R237). -/
def execCmosReadMinutes (s : State) : Host.Outcome State Fault Refusal :=
  .next (s.reply (enc s.cmos.binary s.inp.wall.min))

/-- Hours read (43_cmos_rtc R238). -/
def execCmosReadHours (s : State) : Host.Outcome State Fault Refusal :=
  .next (s.reply (encHour s.cmos.binary s.cmos.h24 s.inp.wall.hour))

/-- Day-of-week read, Sunday = 1 (43_cmos_rtc R239). -/
def execCmosReadWeekday (s : State) : Host.Outcome State Fault Refusal :=
  .next (s.reply (enc s.cmos.binary (s.inp.wall.wday + 1)))

/-- Day-of-month read (43_cmos_rtc R240). -/
def execCmosReadDay (s : State) : Host.Outcome State Fault Refusal :=
  .next (s.reply (enc s.cmos.binary s.inp.wall.day))

/-- Month read (43_cmos_rtc R241). -/
def execCmosReadMonth (s : State) : Host.Outcome State Fault Refusal :=
  .next (s.reply (enc s.cmos.binary s.inp.wall.month))

/-- Year read (43_cmos_rtc R242). -/
def execCmosReadYear (s : State) : Host.Outcome State Fault Refusal :=
  .next (s.reply (enc s.cmos.binary (s.inp.wall.year % 100)))

/-- Century read (43_cmos_rtc R243). -/
def execCmosReadCentury (s : State) : Host.Outcome State Fault Refusal :=
  .next (s.reply (enc s.cmos.binary (s.inp.wall.year / 100 % 100)))

end Sys2Proof.Machine
end

