-- ==== Sys2Proof/Machine/HostCalls.lean ====
section
/-!
DEFINITION. The meanings of the host calls: the three phases of the PIC's poll, `push_irq`, `attach`, and the polls of
the PIT and of the CMOS/RTC.
-/

namespace Sys2Proof.Machine

/-- Phase 1 of the PIC's poll: poll the attached devices (41_pic R162). -/
def execHostPollAttachedDevices (s : State) : Host.Outcome State Fault Refusal := .next s.pollLines

/-- Phase 2 of the PIC's poll: resolve the winner (41_pic R163). -/
def execHostPollResolve (s : State) : Host.Outcome State Fault Refusal :=
  .next { s with ret := .winner (s.pic.resolve s.params.nesting) }

/-- Phase 3 of the PIC's poll: grant and deliver (41_pic R164). -/
def execHostPollGrant (i : Irq) (s : State) : Host.Outcome State Fault Refusal := .next (s.grant i)

/-- `push_irq(n)` (41_pic R161). -/
def execHostPushIrq (n : Nat) (s : State) : Host.Outcome State Fault Refusal := .next (s.pushIrq n)

/-- `attach(n, dev)` (41_pic R165). -/
def execHostAttach (n : Nat) (dev : Device) (s : State) : Host.Outcome State Fault Refusal :=
  .next (if 8 ≤ n then s.raise .irqRange none
    else { s with pic := { s.pic with attached := setDevice s.pic.attached (BitVec.ofNat 3 n) dev } })

/-- The PIT's `poll_irq` (42_pit R199). -/
def execHostPitPollIrq (s : State) : Host.Outcome State Fault Refusal :=
  .next { s with pit := (s.pit.poll s.inp.mono).2, ret := .asserted (s.pit.poll s.inp.mono).1 }

/-- The CMOS's `poll_irq` (43_cmos_rtc R264). -/
def execHostCmosPollIrq (s : State) : Host.Outcome State Fault Refusal :=
  .next { s with cmos := (s.cmos.poll s.inp.wall s.inp.mono).2
                 ret := .asserted (s.cmos.poll s.inp.wall s.inp.mono).1 }

end Sys2Proof.Machine
end

