-- ==== Sys2Proof/Machine/PicCommand.lean ====
section
/-!
DEFINITION. The meanings of the PIC command port 0x20: ICW1, the eight OCW2 commands, OCW3 and the status read.
-/

namespace Sys2Proof.Machine

/-- ICW1 (41_pic R143): ICW3 is expected when SNGL = 0, ICW4 when IC4 = 1; nothing else changes. -/
def execPicIcw1 (_a7 : BitVec 3) (_ltim _adi sngl ic4 : Bool) (s : State) : Host.Outcome State Fault Refusal :=
  .next { s with pic := { s.pic with cascade := !sngl, icw4 := ic4, init := .waitIcw2 } }

/-- OCW2 command 0, clear rotate-in-AEOI (41_pic R145). -/
def execPicOcw2ClearRotateAeoi (_l : BitVec 3) (s : State) : Host.Outcome State Fault Refusal :=
  .next (if s.pic.aeoi then { s with pic := { s.pic with rot := false } } else s)

/-- OCW2 command 1, non-specific EOI (41_pic R146). -/
def execPicOcw2NonspecificEoi (_l : BitVec 3) (s : State) : Host.Outcome State Fault Refusal :=
  .next { s with pic := { s.pic.clearNs s.params.nesting with rot := false } }

/-- OCW2 command 2, no operation (41_pic R147). -/
def execPicOcw2Nop (_l : BitVec 3) (s : State) : Host.Outcome State Fault Refusal := .next s

/-- OCW2 command 3, specific EOI (41_pic R148). -/
def execPicOcw2SpecificEoi (l : Irq) (s : State) : Host.Outcome State Fault Refusal :=
  .next { s with pic := { s.pic with isr := clearIrq s.pic.isr l, rot := false } }

/-- OCW2 command 4, set rotate-in-AEOI (41_pic R149). -/
def execPicOcw2SetRotateAeoi (_l : BitVec 3) (s : State) : Host.Outcome State Fault Refusal :=
  .next { s with pic := { s.pic with rot := true } }

/-- OCW2 command 5, rotate on non-specific EOI (41_pic R150): the IRQ that was highest in service becomes lowest. -/
def execPicOcw2RotateNonspecificEoi (_l : BitVec 3) (s : State) : Host.Outcome State Fault Refusal :=
  .next { s with pic := { (s.pic.clearNs s.params.nesting).rotatePastTop s.pic.topIsr with rot := true } }

/-- OCW2 command 6, set priority (41_pic R151). -/
def execPicOcw2SetPriority (l : Irq) (s : State) : Host.Outcome State Fault Refusal :=
  .next { s with pic := { s.pic.rotatePast l with rot := true } }

/-- OCW2 command 7, rotate on specific EOI (41_pic R152). -/
def execPicOcw2RotateSpecificEoi (l : Irq) (s : State) : Host.Outcome State Fault Refusal :=
  .next { s with pic := { (Pic.rotatePast { s.pic with isr := clearIrq s.pic.isr l } l) with rot := true } }

/-- OCW3 (41_pic R153): a special mask request is diagnosed, and RR/RIS act in any case. -/
def execPicOcw3 (_b7 esmm _smm _p rr ris : Bool) (s : State) : Host.Outcome State Fault Refusal :=
  let s1 := if esmm then s.raise .picSmm (some 0x20#16) else s
  .next (if rr then { s1 with pic := { s1.pic with readIsr := ris } } else s1)

/-- Command-port read (41_pic R159). -/
def execPicReadStatus (s : State) : Host.Outcome State Fault Refusal :=
  .next (s.reply (if s.pic.readIsr then s.pic.isr else s.pic.irr))

end Sys2Proof.Machine
end

