-- ==== Sys2Proof/Machine/PicData.lean ====
section
/-!
DEFINITION. The meanings of the PIC data port 0x21: ICW2, ICW3, ICW4, OCW1 and the mask read.
-/

namespace Sys2Proof.Machine

/-- ICW2 (41_pic R155). -/
def execPicIcw2 (v : Byte) (s : State) : Host.Outcome State Fault Refusal :=
  .next { s with pic := { s.pic with
    vbase := v
    init := if s.pic.cascade then .waitIcw3 else if s.pic.icw4 then .waitIcw4 else .idle } }

/-- ICW3 (41_pic R156): the byte is discarded. -/
def execPicIcw3 (_v : Byte) (s : State) : Host.Outcome State Fault Refusal :=
  .next { s with pic := { s.pic with init := if s.pic.icw4 then .waitIcw4 else .idle } }

/-- ICW4 (41_pic R157). -/
def execPicIcw4 (_b75 : BitVec 3) (_sfnm _buf _ms aeoi _upm : Bool) (s : State) : Host.Outcome State Fault Refusal :=
  .next { s with pic := { s.pic with aeoi := aeoi, init := .idle } }

/-- OCW1 (41_pic R158). -/
def execPicOcw1 (v : Byte) (s : State) : Host.Outcome State Fault Refusal :=
  .next { s with pic := { s.pic with imr := v } }

/-- Data-port read (41_pic R160). -/
def execPicReadImr (s : State) : Host.Outcome State Fault Refusal := .next (s.reply s.pic.imr)

end Sys2Proof.Machine
end

