-- ==== Sys2Proof/Machine/PitControl.lean ====
section
/-!
DEFINITION. The meanings of the PIT control port 0x43: the latch command, the mode-setting and the rejected control
words, and the read of this write-only port.
-/

namespace Sys2Proof.Machine

/-- Control word with SC = 11 (42_pit R186, 30_encoding R105). -/
def execPitCtlBadChannel (_low : BitVec 6) (s : State) : Host.Outcome State Fault Refusal :=
  .next (s.rejectControl .pitBadChannel)

/-- Latch-count command of channel 0 (42_pit R187). -/
def execPitCtlLatchCh0 (_low : BitVec 4) (s : State) : Host.Outcome State Fault Refusal :=
  .next (s.onChannel .ch0 Channel.latch)

/-- Latch-count command of channel 1 (42_pit R187). -/
def execPitCtlLatchCh1 (_low : BitVec 4) (s : State) : Host.Outcome State Fault Refusal :=
  .next (s.onChannel .ch1 Channel.latch)

/-- Latch-count command of channel 2 (42_pit R187). -/
def execPitCtlLatchCh2 (_low : BitVec 4) (s : State) : Host.Outcome State Fault Refusal :=
  .next (s.onChannel .ch2 Channel.latch)

/-- Control word with BCD = 1 (42_pit R186). -/
def execPitCtlBcd (_ch : PitChan) (_rw : Access) (_m : BitVec 3) (s : State) : Host.Outcome State Fault Refusal :=
  .next (s.rejectControl .pitBcd)

/-- Mode-setting control word, mode 0 (42_pit R188). -/
def execPitCtlSetMode0 (ch : PitChan) (rw : Access) (s : State) : Host.Outcome State Fault Refusal :=
  .next (s.onChannel ch (fun c => c.setMode .mode0 rw))

/-- Mode-setting control word, mode 2 (42_pit R188). -/
def execPitCtlSetMode2 (ch : PitChan) (rw : Access) (s : State) : Host.Outcome State Fault Refusal :=
  .next (s.onChannel ch (fun c => c.setMode .mode2 rw))

/-- Mode-setting control word, mode 3 (42_pit R188). -/
def execPitCtlSetMode3 (ch : PitChan) (rw : Access) (s : State) : Host.Outcome State Fault Refusal :=
  .next (s.onChannel ch (fun c => c.setMode .mode3 rw))

/-- Control word with an unsupported mode (42_pit R186). -/
def execPitCtlBadMode (_ch : PitChan) (_rw : Access) (_m : BitVec 3) (s : State) :
    Host.Outcome State Fault Refusal :=
  .next (s.rejectControl .pitBadMode)

/-- Control-port read (42_pit R198): diagnosed, without reconciliation (D50). -/
def execPitCtlRead (s : State) : Host.Outcome State Fault Refusal := .next (s.rejectRead .woRead 0x43#16)

end Sys2Proof.Machine
end

