-- ==== Sys2Proof/Machine/PitData.lean ====
section
/-!
DEFINITION. The meanings of the PIT data ports 0x40 to 0x42: the four count writes and the two reads of each channel.
-/

namespace Sys2Proof.Machine

/-! ## Channel 0 -/

/-- Write in `LO` access mode (42_pit R190). -/
def execPitCh0WriteLo (v : Byte) (s : State) : Host.Outcome State Fault Refusal :=
  .next (s.onChannel .ch0 (fun c => c.writeLo v))

/-- Write in `HI` access mode (42_pit R191). -/
def execPitCh0WriteHi (v : Byte) (s : State) : Host.Outcome State Fault Refusal :=
  .next (s.onChannel .ch0 (fun c => c.writeHi v))

/-- Write in `LOHI` access mode, low byte (42_pit R192). -/
def execPitCh0WriteLohiLow (v : Byte) (s : State) : Host.Outcome State Fault Refusal :=
  .next (s.onChannel .ch0 (fun c => c.writeLow v))

/-- Write in `LOHI` access mode, high byte (42_pit R193). -/
def execPitCh0WriteLohiHigh (v : Byte) (s : State) : Host.Outcome State Fault Refusal :=
  .next (s.onChannel .ch0 (fun c => c.writeHigh v))

/-- Latched read (42_pit R196). -/
def execPitCh0ReadLatched (s : State) : Host.Outcome State Fault Refusal :=
  .next (s.readChannel .ch0 Channel.readLatched)

/-- Live read (42_pit R197). -/
def execPitCh0ReadLive (s : State) : Host.Outcome State Fault Refusal :=
  .next (s.readChannel .ch0 Channel.readLive)

/-! ## Channel 1 -/

/-- Write in `LO` access mode (42_pit R190). -/
def execPitCh1WriteLo (v : Byte) (s : State) : Host.Outcome State Fault Refusal :=
  .next (s.onChannel .ch1 (fun c => c.writeLo v))

/-- Write in `HI` access mode (42_pit R191). -/
def execPitCh1WriteHi (v : Byte) (s : State) : Host.Outcome State Fault Refusal :=
  .next (s.onChannel .ch1 (fun c => c.writeHi v))

/-- Write in `LOHI` access mode, low byte (42_pit R192). -/
def execPitCh1WriteLohiLow (v : Byte) (s : State) : Host.Outcome State Fault Refusal :=
  .next (s.onChannel .ch1 (fun c => c.writeLow v))

/-- Write in `LOHI` access mode, high byte (42_pit R193). -/
def execPitCh1WriteLohiHigh (v : Byte) (s : State) : Host.Outcome State Fault Refusal :=
  .next (s.onChannel .ch1 (fun c => c.writeHigh v))

/-- Latched read (42_pit R196). -/
def execPitCh1ReadLatched (s : State) : Host.Outcome State Fault Refusal :=
  .next (s.readChannel .ch1 Channel.readLatched)

/-- Live read (42_pit R197). -/
def execPitCh1ReadLive (s : State) : Host.Outcome State Fault Refusal :=
  .next (s.readChannel .ch1 Channel.readLive)

/-! ## Channel 2 -/

/-- Write in `LO` access mode (42_pit R190). -/
def execPitCh2WriteLo (v : Byte) (s : State) : Host.Outcome State Fault Refusal :=
  .next (s.onChannel .ch2 (fun c => c.writeLo v))

/-- Write in `HI` access mode (42_pit R191). -/
def execPitCh2WriteHi (v : Byte) (s : State) : Host.Outcome State Fault Refusal :=
  .next (s.onChannel .ch2 (fun c => c.writeHi v))

/-- Write in `LOHI` access mode, low byte (42_pit R192). -/
def execPitCh2WriteLohiLow (v : Byte) (s : State) : Host.Outcome State Fault Refusal :=
  .next (s.onChannel .ch2 (fun c => c.writeLow v))

/-- Write in `LOHI` access mode, high byte (42_pit R193). -/
def execPitCh2WriteLohiHigh (v : Byte) (s : State) : Host.Outcome State Fault Refusal :=
  .next (s.onChannel .ch2 (fun c => c.writeHigh v))

/-- Latched read (42_pit R196). -/
def execPitCh2ReadLatched (s : State) : Host.Outcome State Fault Refusal :=
  .next (s.readChannel .ch2 Channel.readLatched)

/-- Live read (42_pit R197). -/
def execPitCh2ReadLive (s : State) : Host.Outcome State Fault Refusal :=
  .next (s.readChannel .ch2 Channel.readLive)

end Sys2Proof.Machine
end

