-- ==== Sys2Proof/Machine/Dispatch.lean ====
section
/-!
DEFINITION. One arm per constructor of `Instr`: each a direct call of the instruction's meaning.
-/

namespace Sys2Proof.Machine

def exec (i : Instr) (s : State) : Host.Outcome State Fault Refusal :=
  match i with
  | .picIcw1 a7 ltim adi sngl ic4 => Sys2Proof.Machine.execPicIcw1 a7 ltim adi sngl ic4 s
  | .picOcw2ClearRotateAeoi l => Sys2Proof.Machine.execPicOcw2ClearRotateAeoi l s
  | .picOcw2NonspecificEoi l => Sys2Proof.Machine.execPicOcw2NonspecificEoi l s
  | .picOcw2Nop l => Sys2Proof.Machine.execPicOcw2Nop l s
  | .picOcw2SpecificEoi l => Sys2Proof.Machine.execPicOcw2SpecificEoi l s
  | .picOcw2SetRotateAeoi l => Sys2Proof.Machine.execPicOcw2SetRotateAeoi l s
  | .picOcw2RotateNonspecificEoi l => Sys2Proof.Machine.execPicOcw2RotateNonspecificEoi l s
  | .picOcw2SetPriority l => Sys2Proof.Machine.execPicOcw2SetPriority l s
  | .picOcw2RotateSpecificEoi l => Sys2Proof.Machine.execPicOcw2RotateSpecificEoi l s
  | .picOcw3 b7 esmm smm p rr ris => Sys2Proof.Machine.execPicOcw3 b7 esmm smm p rr ris s
  | .picIcw2 v => Sys2Proof.Machine.execPicIcw2 v s
  | .picIcw3 v => Sys2Proof.Machine.execPicIcw3 v s
  | .picIcw4 b75 sfnm buf ms aeoi upm => Sys2Proof.Machine.execPicIcw4 b75 sfnm buf ms aeoi upm s
  | .picOcw1 v => Sys2Proof.Machine.execPicOcw1 v s
  | .picReadStatus => Sys2Proof.Machine.execPicReadStatus s
  | .picReadImr => Sys2Proof.Machine.execPicReadImr s
  | .pitCtlBadChannel low => Sys2Proof.Machine.execPitCtlBadChannel low s
  | .pitCtlLatchCh0 low => Sys2Proof.Machine.execPitCtlLatchCh0 low s
  | .pitCtlLatchCh1 low => Sys2Proof.Machine.execPitCtlLatchCh1 low s
  | .pitCtlLatchCh2 low => Sys2Proof.Machine.execPitCtlLatchCh2 low s
  | .pitCtlBcd ch rw m => Sys2Proof.Machine.execPitCtlBcd ch rw m s
  | .pitCtlSetMode0 ch rw => Sys2Proof.Machine.execPitCtlSetMode0 ch rw s
  | .pitCtlSetMode2 ch rw => Sys2Proof.Machine.execPitCtlSetMode2 ch rw s
  | .pitCtlSetMode3 ch rw => Sys2Proof.Machine.execPitCtlSetMode3 ch rw s
  | .pitCtlBadMode ch rw m => Sys2Proof.Machine.execPitCtlBadMode ch rw m s
  | .pitCh0WriteLo v => Sys2Proof.Machine.execPitCh0WriteLo v s
  | .pitCh0WriteHi v => Sys2Proof.Machine.execPitCh0WriteHi v s
  | .pitCh0WriteLohiLow v => Sys2Proof.Machine.execPitCh0WriteLohiLow v s
  | .pitCh0WriteLohiHigh v => Sys2Proof.Machine.execPitCh0WriteLohiHigh v s
  | .pitCh0ReadLatched => Sys2Proof.Machine.execPitCh0ReadLatched s
  | .pitCh0ReadLive => Sys2Proof.Machine.execPitCh0ReadLive s
  | .pitCh1WriteLo v => Sys2Proof.Machine.execPitCh1WriteLo v s
  | .pitCh1WriteHi v => Sys2Proof.Machine.execPitCh1WriteHi v s
  | .pitCh1WriteLohiLow v => Sys2Proof.Machine.execPitCh1WriteLohiLow v s
  | .pitCh1WriteLohiHigh v => Sys2Proof.Machine.execPitCh1WriteLohiHigh v s
  | .pitCh1ReadLatched => Sys2Proof.Machine.execPitCh1ReadLatched s
  | .pitCh1ReadLive => Sys2Proof.Machine.execPitCh1ReadLive s
  | .pitCh2WriteLo v => Sys2Proof.Machine.execPitCh2WriteLo v s
  | .pitCh2WriteHi v => Sys2Proof.Machine.execPitCh2WriteHi v s
  | .pitCh2WriteLohiLow v => Sys2Proof.Machine.execPitCh2WriteLohiLow v s
  | .pitCh2WriteLohiHigh v => Sys2Proof.Machine.execPitCh2WriteLohiHigh v s
  | .pitCh2ReadLatched => Sys2Proof.Machine.execPitCh2ReadLatched s
  | .pitCh2ReadLive => Sys2Proof.Machine.execPitCh2ReadLive s
  | .pitCtlRead => Sys2Proof.Machine.execPitCtlRead s
  | .cmosIndexWrite b7 index => Sys2Proof.Machine.execCmosIndexWrite b7 index s
  | .cmosIndexRead => Sys2Proof.Machine.execCmosIndexRead s
  | .cmosReadSeconds => Sys2Proof.Machine.execCmosReadSeconds s
  | .cmosReadAlarmSeconds => Sys2Proof.Machine.execCmosReadAlarmSeconds s
  | .cmosReadMinutes => Sys2Proof.Machine.execCmosReadMinutes s
  | .cmosReadAlarmMinutes => Sys2Proof.Machine.execCmosReadAlarmMinutes s
  | .cmosReadHours => Sys2Proof.Machine.execCmosReadHours s
  | .cmosReadAlarmHours => Sys2Proof.Machine.execCmosReadAlarmHours s
  | .cmosReadWeekday => Sys2Proof.Machine.execCmosReadWeekday s
  | .cmosReadDay => Sys2Proof.Machine.execCmosReadDay s
  | .cmosReadMonth => Sys2Proof.Machine.execCmosReadMonth s
  | .cmosReadYear => Sys2Proof.Machine.execCmosReadYear s
  | .cmosReadStatusA => Sys2Proof.Machine.execCmosReadStatusA s
  | .cmosReadStatusB => Sys2Proof.Machine.execCmosReadStatusB s
  | .cmosReadStatusC => Sys2Proof.Machine.execCmosReadStatusC s
  | .cmosReadStatusD => Sys2Proof.Machine.execCmosReadStatusD s
  | .cmosReadCentury => Sys2Proof.Machine.execCmosReadCentury s
  | .cmosReadFixed => Sys2Proof.Machine.execCmosReadFixed s
  | .cmosWriteAlarmSeconds v => Sys2Proof.Machine.execCmosWriteAlarmSeconds v s
  | .cmosWriteAlarmMinutes v => Sys2Proof.Machine.execCmosWriteAlarmMinutes v s
  | .cmosWriteAlarmHours v => Sys2Proof.Machine.execCmosWriteAlarmHours v s
  | .cmosWriteStatusA uip rega => Sys2Proof.Machine.execCmosWriteStatusA uip rega s
  | .cmosWriteStatusB set pie aie uie sqwe dm h24 dse => Sys2Proof.Machine.execCmosWriteStatusB set pie aie uie sqwe dm h24 dse s
  | .cmosWriteStatusCd v => Sys2Proof.Machine.execCmosWriteStatusCd v s
  | .cmosWriteOther v => Sys2Proof.Machine.execCmosWriteOther v s
  | .hostPollAttachedDevices => Sys2Proof.Machine.execHostPollAttachedDevices s
  | .hostPollResolve => Sys2Proof.Machine.execHostPollResolve s
  | .hostPollGrant irq => Sys2Proof.Machine.execHostPollGrant irq s
  | .hostPushIrq n => Sys2Proof.Machine.execHostPushIrq n s
  | .hostAttach n dev => Sys2Proof.Machine.execHostAttach n dev s
  | .hostPitPollIrq => Sys2Proof.Machine.execHostPitPollIrq s
  | .hostCmosPollIrq => Sys2Proof.Machine.execHostCmosPollIrq s

end Sys2Proof.Machine
end

