-- ==== Sys2Proof/Machine/Bus.lean ====
section
/-!
DEFINITION. What the block does with an operation of the environment: the routing of a port access, the checks every
access passes (40_port_contract), its decoding, and the PIC's poll as its three phases.
-/

namespace Sys2Proof.Machine

/-- The units an access can reach. -/
inductive PortUnit where
  | pic
  | pit
  | cmos
deriving DecidableEq, Repr

/-- Is the port one of the `n` ports from `base` on? -/
def portIn (port : Port) (base n : Nat) : Bool := decide (base ≤ port.toNat) && decide (port.toNat < base + n)

/-- The unit that owns a port of the block (20_memory R71): its mapped sub-offsets (40_port_contract R131). -/
def ownerOf (port : Port) : Option PortUnit :=
  if portIn port 0x20 2 then some .pic
  else if portIn port 0x40 4 then some .pit
  else if portIn port 0x70 2 then some .cmos
  else none

/-- Does the host route to a unit a port past the unit's own range? (40_port_contract R131, 20_memory R72; log 9) -/
def routedBeyond (p : Params) (port : Port) : Bool :=
  portIn port 0x22 p.picExtra || portIn port 0x44 p.pitExtra || portIn port 0x72 p.cmosExtra

/-- The access word of a one-byte access (30_encoding R90). -/
def accessWord (a : PortAccess) : AccessWord :=
  match a.dir with
  | .write => writeWord a.port (a.value.setWidth 8)
  | .read => readWord a.port

/-- A rejected access (40_port_contract R130, R131): diagnosed; a read returns `NOVALUE`. -/
def State.rejectAccess (s : State) (code : DiagCode) (a : PortAccess) : State :=
  match a.dir with
  | .read => s.rejectRead code a.port
  | .write => s.raise code (some a.port)

/-- A one-byte access that reached the block: the decoded instruction runs (30_encoding R90, R91). A port at which no
unit has a register is diagnosed (40_port_contract R131). -/
def performByte (a : PortAccess) (s : State) : Host.Outcome State Fault Refusal :=
  match decode s.ctx (accessWord a) with
  | .ok i => exec i s
  | .error _ => .next (s.rejectAccess .unmapped a)

/-- A port access: the host routes it, then the size is checked, then the offset, then the unit's rule runs
(20_memory R72, 40_port_contract R134). An access that is routed to no unit never reaches the block. -/
def performAccess (a : PortAccess) (s : State) : Host.Outcome State Fault Refusal :=
  if (ownerOf a.port).isSome || routedBeyond s.params a.port then
    if a.size = 1 then performByte a s else .next (s.rejectAccess .badSize a)
  else .next s

/-- Run what follows when an operation answered a next state. -/
def andThen (o : Host.Outcome State Fault Refusal) (k : State → Host.Outcome State Fault Refusal) :
    Host.Outcome State Fault Refusal :=
  match o with
  | .next s => k s
  | .fault r => .fault r
  | .refused r => .refused r

/-- What follows the resolution: the grant of the winner, or a poll that delivers nothing (41_pic R164). -/
def finishPoll (s : State) : Host.Outcome State Fault Refusal :=
  match s.ret with
  | .winner (some i) => exec (.hostPollGrant i) s
  | _ => .next { s with ret := .vector none }

/-- `poll()`: the three phases in one step (41_pic R162 to R164, 60_exceptions R295; log 11). -/
def performPoll (s : State) : Host.Outcome State Fault Refusal :=
  andThen (exec .hostPollAttachedDevices s) (fun s1 => andThen (exec .hostPollResolve s1) finishPoll)

/-- One operation of the environment (00_scope R2). -/
def perform (c : Call) (s : State) : Host.Outcome State Fault Refusal :=
  match c with
  | .port a => performAccess a s
  | .poll => performPoll s
  | .pushIrq n => exec (.hostPushIrq n) s
  | .attach n dev => exec (.hostAttach n dev) s

/-- The state in which a request is performed: it leaves the list, its inputs are those of the step, and nothing has
been handed back yet (log 1, log 2, log 7). -/
def State.accept (s : State) (r : Request) (rest : List Request) : State :=
  { s with pending := rest, inp := r.inp, ret := .nothing }

/-- One step: the first operation of the list is performed; with none, nothing happens (00_scope R2; log 1). -/
def stepState (s : State) : Host.Outcome State Fault Refusal :=
  match s.pending with
  | [] => .next s
  | r :: rest => perform r.call (s.accept r rest)

/-- The port access whose access word is w (30_encoding R90); none if w has more than 25 bits. -/
def accessOfWord (nbits w : Nat) : Option PortAccess :=
  if w < 0x2000000 ∧ w >>> nbits = 0 then
    some { dir := if AccessWord.isWrite (BitVec.ofNat 25 w) then .write else .read
           port := AccessWord.port (BitVec.ofNat 25 w)
           value := (AccessWord.byte (BitVec.ofNat 25 w)).setWidth 32
           size := 1 }
  else none

/-- The list of operations with the access of word w put first, performed at the inputs of the last step. -/
def pendingWithWord (s : State) (nbits w : Nat) : List Request :=
  match accessOfWord nbits w with
  | some a => ⟨.port a, s.inp⟩ :: s.pending
  | none => s.pending

end Sys2Proof.Machine
end

