-- ==== Sys2Proof/Machine/Step.lean ====
section
/-!
DEFINITION. One step of the machine, and where a step fetches its operation from.
-/

namespace Sys2Proof.Machine

/-- One step: the first pending operation of the environment is performed (20_memory R73). -/
def step (s : State) : Host.Outcome State Fault Refusal := stepState s

/-- The state with the one-byte access of access word w as its next operation (30_encoding R90; log 8). -/
def State.withFetchWord (s : State) (nbits w : Nat) : State := { s with pending := pendingWithWord s nbits w }

end Sys2Proof.Machine
end

