-- ==== Sys2Proof/Safety.lean ====
section
/-!
DEFINITION. The terms the statements use: the invariants of the block, the rows of the opcode table that come once per
channel, and the accesses of the environment.
-/

namespace Sys2Proof.Machine

/-! ## Invariants -/

/-- 10_state R46, for one channel: a running channel has at least one tick left, the counter is at most 65536, and at
most the bytes the access mode needs are left of a latch. (The mode is one of 0, 2, 3 by its type.) -/
abbrev Channel.Good (c : Channel) : Prop :=
  (c.running = true → 1 ≤ c.cur) ∧ c.cur ≤ 65536 ∧ c.latchLeft ≤ 2 ∧ (c.access ≠ .lohi → c.latchLeft ≤ 1)

/-- 10_state R46, for the three channels. -/
abbrev Pit.Good (p : Pit) : Prop := p.ch0.Good ∧ p.ch1.Good ∧ p.ch2.Good

/-- `popcount(pic.isr) <= 1` (10_state R35): no two lines are in service. -/
abbrev Pic.OneInService (p : Pic) : Prop :=
  ∀ i j : Irq, irqBit p.isr i = true → irqBit p.isr j = true → i = j

/-- The PIC invariant of 10_state R35: at most one IRQ is in service under single nesting. -/
abbrev State.NestingGood (s : State) : Prop := s.params.nesting = .single → s.pic.OneInService

/-- 43_cmos_rtc R266 (c), as far as one state shows it: while the RTC's line is high, a source is pending. -/
abbrev Cmos.LineGood (c : Cmos) : Prop := c.line = true → (c.pf || c.af || c.uf) = true

/-- The parameters obey the laws of 00_scope R6 and 60_exceptions R283. -/
abbrev State.ParamsGood (s : State) : Prop := s.params.wf = true

/-! ## Rows that come once per channel or mode -/

/-- `pit.ch<k>.write_lo`: pitCh0WriteLo, pitCh1WriteLo, pitCh2WriteLo. -/
def pitWriteLo (k : PitChan) (v : Byte) : Instr :=
  match k with
  | .ch0 => .pitCh0WriteLo v
  | .ch1 => .pitCh1WriteLo v
  | .ch2 => .pitCh2WriteLo v

/-- `pit.ch<k>.write_hi`: pitCh0WriteHi, pitCh1WriteHi, pitCh2WriteHi. -/
def pitWriteHi (k : PitChan) (v : Byte) : Instr :=
  match k with
  | .ch0 => .pitCh0WriteHi v
  | .ch1 => .pitCh1WriteHi v
  | .ch2 => .pitCh2WriteHi v

/-- `pit.ch<k>.write_lohi_low`: pitCh0WriteLohiLow, pitCh1WriteLohiLow, pitCh2WriteLohiLow. -/
def pitWriteLohiLow (k : PitChan) (v : Byte) : Instr :=
  match k with
  | .ch0 => .pitCh0WriteLohiLow v
  | .ch1 => .pitCh1WriteLohiLow v
  | .ch2 => .pitCh2WriteLohiLow v

/-- `pit.ch<k>.write_lohi_high`: pitCh0WriteLohiHigh, pitCh1WriteLohiHigh, pitCh2WriteLohiHigh. -/
def pitWriteLohiHigh (k : PitChan) (v : Byte) : Instr :=
  match k with
  | .ch0 => .pitCh0WriteLohiHigh v
  | .ch1 => .pitCh1WriteLohiHigh v
  | .ch2 => .pitCh2WriteLohiHigh v

/-- `pit.ch<k>.read_latched`: pitCh0ReadLatched, pitCh1ReadLatched, pitCh2ReadLatched. -/
def pitReadLatched (k : PitChan) : Instr :=
  match k with
  | .ch0 => .pitCh0ReadLatched
  | .ch1 => .pitCh1ReadLatched
  | .ch2 => .pitCh2ReadLatched

/-- `pit.ch<k>.read_live`: pitCh0ReadLive, pitCh1ReadLive, pitCh2ReadLive. -/
def pitReadLive (k : PitChan) : Instr :=
  match k with
  | .ch0 => .pitCh0ReadLive
  | .ch1 => .pitCh1ReadLive
  | .ch2 => .pitCh2ReadLive

/-- `pit.ctl.latch.ch<k>`: pitCtlLatchCh0, pitCtlLatchCh1, pitCtlLatchCh2. -/
def pitCtlLatch (k : PitChan) (low : BitVec 4) : Instr :=
  match k with
  | .ch0 => .pitCtlLatchCh0 low
  | .ch1 => .pitCtlLatchCh1 low
  | .ch2 => .pitCtlLatchCh2 low

/-- `pit.ctl.set_mode<m>`: pitCtlSetMode0, pitCtlSetMode2, pitCtlSetMode3. -/
def pitCtlSetMode (m : PitMode) (k : PitChan) (rw : Access) : Instr :=
  match m with
  | .mode0 => .pitCtlSetMode0 k rw
  | .mode2 => .pitCtlSetMode2 k rw
  | .mode3 => .pitCtlSetMode3 k rw

/-! ## Accesses of the environment -/

/-- `out p, v`, a one-byte port write (00_scope R10). -/
def outAccess (p : Port) (v : Byte) : PortAccess := ⟨.write, p, v.setWidth 32, 1⟩

/-- `in p`, a one-byte port read (00_scope R10). -/
def inAccess (p : Port) : PortAccess := ⟨.read, p, 0#32, 1⟩

/-- The data port of channel k, 0x40 + k (30_encoding R106). -/
def dataPort (k : PitChan) : Port :=
  match k with
  | .ch0 => 0x40#16
  | .ch1 => 0x41#16
  | .ch2 => 0x42#16

/-- The next operation of the environment is `c` with inputs `inp`, and `rest` follows it. -/
abbrev State.Issues (s : State) (c : Call) (inp : Inputs) (rest : List Request) : Prop :=
  s.pending = ⟨c, inp⟩ :: rest

end Sys2Proof.Machine
end

