-- ==== Sys2Proof/Certificates/Slice0/Obligations.lean ====
section
/-!
DEFINITION. The statements for the provers. Each docstring names the rules or sections of spec/ it formalises, and the
model's own choices by their log entry.
-/

open Sys2Proof Sys2Proof.Machine

/-! ## Encoding and decoding -/

/-- 30_encoding R90 to R118: for every well-formed port operation, with every operand at every value, and every context
that selects its row, decoding its access word gives it back. -/
def Obligations.DecodeOfEncodeIsTheInstruction : Prop :=
  ∀ (i : Instr) (c : Ctx) (w : AccessWord),
    i.wf = true → c.selects i = true → encode i = some w → decode c w = .ok i

/-- 30_encoding R90 to R118, the other direction: what the decoder answers is well formed, is the row the context
selects, and encodes to the word, but for w[7:0] of a read, which R90 says is 0 and not read. -/
def Obligations.EncodeOfDecodeIsTheWord : Prop :=
  ∀ (c : Ctx) (w : AccessWord) (i : Instr), decode c w = .ok i →
    i.wf = true ∧ c.selects i = true ∧
    encode i = some (if w.getLsbD 24 = true then w else w &&& 0x1FFFF00#25)

/-- 30_encoding R91 and 20_memory R71: the decoder is total on the eight ports of the block and rejects by name every
other port, in both directions. -/
def Obligations.DecoderAnswersExactlyTheEightPorts : Prop :=
  ∀ (c : Ctx) (w : AccessWord),
    ((∃ i, decode c w = .ok i) ↔
      AccessWord.port w ∈ [0x20#16, 0x21#16, 0x40#16, 0x41#16, 0x42#16, 0x43#16, 0x70#16, 0x71#16]) ∧
    (∀ r, decode c w = .error r → r = .noRegister (AccessWord.port w))

/-- Words of 95_test_vectors part 3, decoded in the contexts their programs reach: P1 steps 1, 2, 5 and 10, P2 steps 1
to 3, P3 step 1 and P4 step 4. -/
def Obligations.VectorWordsDecode : Prop :=
  decode Ctx.reset 0x1002011#25 = .ok (.picIcw1 0#3 false false false true) ∧
  decode { Ctx.reset with init := .waitIcw2 } 0x1002120#25 = .ok (.picIcw2 0x20#8) ∧
  decode Ctx.reset 0x10021FC#25 = .ok (.picOcw1 0xFC#8) ∧
  decode Ctx.reset 0x100200B#25 = .ok (.picOcw3 false false false false true true) ∧
  decode Ctx.reset 0x1004336#25 = .ok (.pitCtlSetMode3 .ch0 .lohi) ∧
  decode Ctx.reset 0x1004000#25 = .ok (.pitCh0WriteLohiLow 0x00#8) ∧
  decode { Ctx.reset with ch0 := ⟨.lohi, .high, 0⟩ } 0x1004004#25 = .ok (.pitCh0WriteLohiHigh 0x04#8) ∧
  decode Ctx.reset 0x100700B#25 = .ok (.cmosIndexWrite false 0x0B#7) ∧
  decode { Ctx.reset with ch0 := ⟨.lohi, .low, 2⟩ } 0x0004000#25 = .ok .pitCh0ReadLatched

/-! ## One step -/

/-- A step runs the decoded instruction: a one-byte access at a port of the block whose word decodes to i is exec of i
in the state that has taken the operation off the list and its inputs in (20_memory R73; log 1, log 2). The host calls
likewise: `poll()` is its three phases, the third only when the second names a winner (log 11). With no operation issued
nothing happens. The word of an access is w[24] direction, w[23:8] port, w[7:0] byte, 0 for a read (30_encoding R90; of
a value wider than a byte the low 8 bits, log 10), and the decode context is the registers 30_encoding R91 names. -/
def Obligations.StepRunsTheIssuedOperation : Prop :=
  (∀ a : PortAccess, accessWord a = BitVec.ofNat 25 (if a.dir = .write
    then 0x1000000 + a.port.toNat * 256 + a.value.toNat % 256 else a.port.toNat * 256)) ∧
  (∀ s : State, s.ctx = {
    init := s.pic.init
    index := s.cmos.index
    ch0 := ⟨s.pit.ch0.access, s.pit.ch0.cursor, s.pit.ch0.latchLeft⟩
    ch1 := ⟨s.pit.ch1.access, s.pit.ch1.cursor, s.pit.ch1.latchLeft⟩
    ch2 := ⟨s.pit.ch2.access, s.pit.ch2.cursor, s.pit.ch2.latchLeft⟩ }) ∧
  (∀ (s : State) (a : PortAccess) (inp : Inputs) (rest : List Request) (i : Instr),
    s.Issues (.port a) inp rest → (ownerOf a.port).isSome = true → a.size = 1 →
    decode s.ctx (accessWord a) = .ok i →
    step s = exec i { s with pending := rest, inp := inp, ret := .nothing }) ∧
  (∀ (s : State) (inp : Inputs) (rest : List Request) (n : Nat), s.Issues (.pushIrq n) inp rest →
    step s = exec (.hostPushIrq n) { s with pending := rest, inp := inp, ret := .nothing }) ∧
  (∀ (s : State) (inp : Inputs) (rest : List Request) (n : Nat) (d : Device), s.Issues (.attach n d) inp rest →
    step s = exec (.hostAttach n d) { s with pending := rest, inp := inp, ret := .nothing }) ∧
  (∀ (s : State) (inp : Inputs) (rest : List Request), s.Issues .poll inp rest →
    ∃ u w : State, exec .hostPollAttachedDevices { s with pending := rest, inp := inp, ret := .nothing } = .next u ∧
      exec .hostPollResolve u = .next w ∧
      (∀ i : Irq, w.ret = .winner (some i) → step s = exec (.hostPollGrant i) w) ∧
      (w.ret = .winner none → step s = .next { w with ret := .vector none })) ∧
  (∀ s : State, s.pending = [] → step s = .next s)

/-- 40_port_contract R136 and 60_exceptions R280: no operation ends in a fault (or a refusal): every state has a next
state. -/
def Obligations.NoStepFaults : Prop := ∀ s : State, ∃ t, step s = .next t

/-- 40_port_contract R130, for the ports of 20_memory R71: an access of a size other than 1 appends (BAD_SIZE, port), a
read returns the free byte NOVALUE (log 5), and nothing else happens. The model's own choices: that the same holds at a
port past R71 that the host routes to a unit, and that routing comes before the size check and that before the offset
check (log 9); that a wide access of any natural size belongs to the unit of its first port (log 10). -/
def Obligations.WrongSizeIsDiagnosedOnly : Prop :=
  ∀ (s : State) (a : PortAccess) (inp : Inputs) (rest : List Request),
    s.Issues (.port a) inp rest → (ownerOf a.port).isSome = true ∨ routedBeyond s.params a.port = true → a.size ≠ 1 →
    step s = .next { s with
      pending := rest
      inp := inp
      diag := s.diag ++ [⟨.badSize, some a.port⟩]
      ret := if a.dir = .read then .byte (Config.noValue s.draws) else .nothing
      draws := if a.dir = .read then s.draws + 1 else s.draws }

/-- 20_memory R71: each of the eight ports of the block has its unit, and no other port has one. 20_memory R72: a port
of no unit that the host does not route to one never reaches the block; that this holds for an access of any size, one
whose later bytes lie at a port of the block among them, is the model's choice (log 10). 40_port_contract R131: a
one-byte access at a port that the host does route is diagnosed (UNMAPPED, port), a read of it returns the free byte
NOVALUE (log 5), and nothing else happens; which ports beyond R71 the host routes is the model's choice (log 9). -/
def Obligations.ForeignPortsChangeNothing : Prop :=
  (∀ port : Port,
    (ownerOf port = some .pic ↔ port = 0x20#16 ∨ port = 0x21#16) ∧
    (ownerOf port = some .pit ↔ port = 0x40#16 ∨ port = 0x41#16 ∨ port = 0x42#16 ∨ port = 0x43#16) ∧
    (ownerOf port = some .cmos ↔ port = 0x70#16 ∨ port = 0x71#16)) ∧
  ∀ (s : State) (a : PortAccess) (inp : Inputs) (rest : List Request),
    s.Issues (.port a) inp rest → ownerOf a.port = none →
    (routedBeyond s.params a.port = false →
      step s = .next { s with pending := rest, inp := inp, ret := .nothing }) ∧
    (routedBeyond s.params a.port = true → a.size = 1 →
      step s = .next { s with
        pending := rest
        inp := inp
        diag := s.diag ++ [⟨.unmapped, some a.port⟩]
        ret := if a.dir = .read then .byte (Config.noValue s.draws) else .nothing
        draws := if a.dir = .read then s.draws + 1 else s.draws })

/-- 10_state R60, 40_port_contract R134, 30_encoding R116: the diagnostic log is append-only, one step appends at most
one record, and PIC_BAD_CMD is never raised. -/
def Obligations.StepAppendsAtMostOneDiagnostic : Prop :=
  ∀ s t : State, step s = .next t →
    t.diag = s.diag ∨ ∃ d : Diag, t.diag = s.diag ++ [d] ∧ d.code ≠ .picBadCmd

/-- 10_state R20: the units share no mutable state. An access at a port of one unit leaves the registers of the other
two, the parameters and the vectors delivered as they are. -/
def Obligations.AccessTouchesOnlyItsUnit : Prop :=
  ∀ (s t : State) (a : PortAccess), performAccess a s = .next t →
    (ownerOf a.port ≠ some .pic → t.pic = s.pic) ∧
    (ownerOf a.port ≠ some .pit → t.pit = s.pit) ∧
    (ownerOf a.port ≠ some .cmos → t.cmos = s.cmos) ∧
    t.params = s.params ∧ t.inp = s.inp ∧ t.pending = s.pending ∧ t.delivered = s.delivered

/-- 10_state R20: the configuration is a parameter of the step, not state, so no step changes it. -/
def Obligations.StepKeepsTheParameters : Prop := ∀ s t : State, step s = .next t → t.params = s.params

/-- 42_pit R183 and 43_cmos_rtc R264: a MONO_NOW that goes back is ignored, so neither the time of the last
reconciliation nor the time of the last CMOS poll ever decreases. -/
def Obligations.ReconciliationTimesNeverDecrease : Prop :=
  ∀ s t : State, step s = .next t → s.pit.last ≤ t.pit.last ∧ s.cmos.lastMono ≤ t.cmos.lastMono

/-- 20_memory R76: the reads of 0x20, 0x21 and of 0x71 at every index but 0x0C are pure: they end with a byte and change
no state. -/
def Obligations.PureReadsChangeNoState : Prop :=
  ∀ (s : State) (i : Instr),
    i ∈ [Instr.picReadStatus, .picReadImr, .cmosReadSeconds, .cmosReadMinutes, .cmosReadHours, .cmosReadWeekday,
      .cmosReadDay, .cmosReadMonth, .cmosReadYear, .cmosReadCentury, .cmosReadAlarmSeconds, .cmosReadAlarmMinutes,
      .cmosReadAlarmHours, .cmosReadStatusA, .cmosReadStatusB, .cmosReadStatusD, .cmosReadFixed] →
    ∃ b : Byte, exec i s = .next { s with ret := .byte b }

/-- 40_port_contract R133, 42_pit R198, 43_cmos_rtc R231: a read of 0x43 or 0x70 appends (WO_READ, port) and returns the
free byte NOVALUE (log 5); the PIT is not reconciled and the index is unchanged. -/
def Obligations.WriteOnlyReadsAreDiagnosed : Prop :=
  ∀ s : State,
    exec .pitCtlRead s = .next { s with
      diag := s.diag ++ [⟨.woRead, some 0x43#16⟩], ret := .byte (Config.noValue s.draws), draws := s.draws + 1 } ∧
    exec .cmosIndexRead s = .next { s with
      diag := s.diag ++ [⟨.woRead, some 0x70#16⟩], ret := .byte (Config.noValue s.draws), draws := s.draws + 1 }

/-! ## Reset -/

/-- 10_state section 6 and 70_reset_and_hazards section 1: the values construction leaves, for any parameters and any
T0. Nothing is said of the model's own fields (log 1, log 2, log 5, log 7). -/
def Obligations.ConstructionLeavesTheStatedValues : Prop :=
  ∀ (p : Params) (m : Nat) (w : Wall) (k : PitChan), ∃ s : State, State.construct p m w = s ∧
    s.pic = { irr := 0x00#8, isr := 0x00#8, imr := 0x00#8, base := 0#3, init := .idle, cascade := false,
              icw4 := false, aeoi := false, rot := false, readIsr := false, vbase := p.resetVectorBase,
              attached := p.irqMap } ∧
    s.pit.chan k = { reload := 0#16, cur := 0, mode := .mode3, access := .lohi, running := false, out := true,
                     latchVal := 0#16, latchLeft := 0, cursor := .low, edge := false } ∧
    s.pit.last = m ∧
    s.cmos = { index := 0x00#7, binary := true, h24 := true, pie := false, aie := false, uie := false, pf := false,
               af := false, uf := false, alarmS := 0x00#8, alarmM := 0x00#8, alarmH := 0x00#8,
               rega := BitVec.ofNat 7 p.statusAReset.toNat, line := false, lastWall := w, lastMono := m } ∧
    s.diag = [] ∧ s.params = p

/-- Construction with lawful parameters meets every invariant of 10_state R35 and R46 and 43_cmos_rtc R266, and the
parameters of 00_scope R6 are lawful. The state after reset is such a construction, at the `T0` of log 4. -/
def Obligations.ConstructionMeetsTheInvariants : Prop :=
  Params.default.wf = true ∧ (∃ (m : Nat) (w : Wall), State.reset = State.construct Params.default m w) ∧
  ∀ (p : Params) (m : Nat) (w : Wall), p.wf = true →
    (State.construct p m w).pit.Good ∧ (State.construct p m w).NestingGood ∧
    (State.construct p m w).cmos.LineGood ∧ (State.construct p m w).ParamsGood

/-! ## Invariants -/

/-- 10_state R46: every step keeps the PIT invariants of every channel. -/
def Obligations.StepKeepsThePitInvariants : Prop :=
  ∀ s t : State, s.pit.Good → step s = .next t → t.pit.Good

/-- 10_state R35, 41_pic R166 (d): under single nesting every step keeps at most one IRQ in service. -/
def Obligations.StepKeepsOneIrqInService : Prop :=
  ∀ s t : State, s.NestingGood → step s = .next t → t.NestingGood

/-- 43_cmos_rtc R266 (c): every step keeps that the RTC's line is high only while a source is pending. -/
def Obligations.StepKeepsTheLineLawful : Prop :=
  ∀ s t : State, s.cmos.LineGood → step s = .next t → t.cmos.LineGood

/-! ## PIC -/

/-- 41_pic R140: `top(S)` is the member of S of least rank, and `none` exactly when S is empty; ranks are
`(i - base) mod 8`. -/
def Obligations.TopIsTheMemberOfLeastRank : Prop :=
  ∀ (base : Irq) (set : Byte),
    (∀ i : Irq, rank base i = (i.toNat + 8 - base.toNat) % 8) ∧
    (top base set = none ↔ ∀ i : Irq, irqBit set i = false) ∧
    (∀ i : Irq, top base set = some i ↔
      irqBit set i = true ∧ ∀ j : Irq, irqBit set j = true →
        (i.toNat + 8 - base.toNat) % 8 ≤ (j.toNat + 8 - base.toNat) % 8)

/-- 41_pic R143, R155, R156, R157: the initialization words, each with all it writes and nothing else. -/
def Obligations.InitWordsAdvanceTheSequence : Prop :=
  ∀ s : State,
    (∀ (a7 : BitVec 3) (ltim adi sngl ic4 : Bool), exec (.picIcw1 a7 ltim adi sngl ic4) s = .next { s with
      pic := { s.pic with cascade := !sngl, icw4 := ic4, init := .waitIcw2 } }) ∧
    (∀ v : Byte, exec (.picIcw2 v) s = .next { s with pic := { s.pic with
      vbase := v
      init := if s.pic.cascade = true then .waitIcw3 else if s.pic.icw4 = true then .waitIcw4 else .idle } }) ∧
    (∀ v : Byte, exec (.picIcw3 v) s = .next { s with pic := { s.pic with
      init := if s.pic.icw4 = true then .waitIcw4 else .idle } }) ∧
    (∀ (b75 : BitVec 3) (sfnm buf ms aeoi upm : Bool), exec (.picIcw4 b75 sfnm buf ms aeoi upm) s = .next { s with
      pic := { s.pic with aeoi := aeoi, init := .idle } })

/-- 70_reset_and_hazards R312 and R315, 30_encoding R117, by as many steps (the list of operations is log 1): after an
ICW1 byte v, whatever its ignored bits 7:5, 3 and 2 and whatever the PIC was waiting for, the bytes written to 0x21 are
ICW2, then ICW3 if SNGL = 0, then ICW4 if IC4 = 1; none of them is taken as a mask, and the sequence ends idle. Without
ICW4 the AEOI flag keeps its value. -/
def Obligations.InitSequenceCapturesTheDataPort : Prop :=
  ∀ (s : State) (v b2 b3 b4 : Byte) (i1 i2 i3 i4 : Inputs) (rest : List Request), v.getLsbD 4 = true →
    (v.getLsbD 1 = false → v.getLsbD 0 = true →
      s.pending = ⟨.port (outAccess 0x20#16 v), i1⟩ :: ⟨.port (outAccess 0x21#16 b2), i2⟩ ::
        ⟨.port (outAccess 0x21#16 b3), i3⟩ :: ⟨.port (outAccess 0x21#16 b4), i4⟩ :: rest →
      ∃ t1 t2 t3 t4 : State, step s = .next t1 ∧ step t1 = .next t2 ∧ step t2 = .next t3 ∧ step t3 = .next t4 ∧
        t4.pic = { s.pic with cascade := true, icw4 := true, init := .idle, vbase := b2, aeoi := b4.getLsbD 1 } ∧
        t4.pit = s.pit ∧ t4.cmos = s.cmos ∧ t4.diag = s.diag ∧ t4.pending = rest) ∧
    (v.getLsbD 1 = false → v.getLsbD 0 = false →
      s.pending = ⟨.port (outAccess 0x20#16 v), i1⟩ :: ⟨.port (outAccess 0x21#16 b2), i2⟩ ::
        ⟨.port (outAccess 0x21#16 b3), i3⟩ :: rest →
      ∃ t1 t2 t3 : State, step s = .next t1 ∧ step t1 = .next t2 ∧ step t2 = .next t3 ∧
        t3.pic = { s.pic with cascade := true, icw4 := false, init := .idle, vbase := b2 } ∧
        t3.pit = s.pit ∧ t3.cmos = s.cmos ∧ t3.diag = s.diag ∧ t3.pending = rest) ∧
    (v.getLsbD 1 = true → v.getLsbD 0 = true →
      s.pending = ⟨.port (outAccess 0x20#16 v), i1⟩ :: ⟨.port (outAccess 0x21#16 b2), i2⟩ ::
        ⟨.port (outAccess 0x21#16 b4), i4⟩ :: rest →
      ∃ t1 t2 t3 : State, step s = .next t1 ∧ step t1 = .next t2 ∧ step t2 = .next t3 ∧
        t3.pic = { s.pic with cascade := false, icw4 := true, init := .idle, vbase := b2, aeoi := b4.getLsbD 1 } ∧
        t3.pit = s.pit ∧ t3.cmos = s.cmos ∧ t3.diag = s.diag ∧ t3.pending = rest) ∧
    (v.getLsbD 1 = true → v.getLsbD 0 = false →
      s.pending = ⟨.port (outAccess 0x20#16 v), i1⟩ :: ⟨.port (outAccess 0x21#16 b2), i2⟩ :: rest →
      ∃ t1 t2 : State, step s = .next t1 ∧ step t1 = .next t2 ∧
        t2.pic = { s.pic with cascade := false, icw4 := false, init := .idle, vbase := b2 } ∧
        t2.pit = s.pit ∧ t2.cmos = s.cmos ∧ t2.diag = s.diag ∧ t2.pending = rest)

/-- 41_pic R145 to R149 and R151: OCW2 commands 0, 2, 3, 4 and 6, each with all it writes and nothing else. -/
def Obligations.PlainOcw2CommandsWriteTheirBits : Prop :=
  ∀ (s : State) (l : BitVec 3),
    exec (.picOcw2ClearRotateAeoi l) s = .next { s with
      pic := { s.pic with rot := s.pic.rot && !s.pic.aeoi } } ∧
    exec (.picOcw2Nop l) s = .next s ∧
    (∃ t, exec (.picOcw2SpecificEoi l) s = .next t ∧
      t = { s with pic := { s.pic with isr := t.pic.isr, rot := false } } ∧
      ∀ j : Irq, irqBit t.pic.isr j = (irqBit s.pic.isr j && j != l)) ∧
    exec (.picOcw2SetRotateAeoi l) s = .next { s with pic := { s.pic with rot := true } } ∧
    (∃ t, exec (.picOcw2SetPriority l) s = .next t ∧
      t = { s with pic := { s.pic with base := t.pic.base, rot := true } } ∧
      t.pic.base.toNat = (l.toNat + 1) % 8)

/-- 41_pic R146 and R150 with R144: the non-specific EOI. Under single nesting ISR is cleared; under fully nested the
in-service bit of least rank is, and with nothing in service none is. With rotation, the base goes past the IRQ of least
rank in service, and stays where it is when nothing is in service. -/
def Obligations.NonspecificEoiEndsTheTopIrq : Prop :=
  ∀ (s : State) (l : BitVec 3),
    (∃ t, exec (.picOcw2NonspecificEoi l) s = .next t ∧
      t = { s with pic := { s.pic with isr := t.pic.isr, rot := false } } ∧
      (s.params.nesting = .single → t.pic.isr = 0x00#8) ∧
      (s.params.nesting = .fullyNested → ∀ j : Irq, irqBit t.pic.isr j =
        (irqBit s.pic.isr j && top s.pic.base s.pic.isr != some j))) ∧
    (∃ t, exec (.picOcw2RotateNonspecificEoi l) s = .next t ∧
      t = { s with pic := { s.pic with isr := t.pic.isr, base := t.pic.base, rot := true } } ∧
      (s.params.nesting = .single → t.pic.isr = 0x00#8) ∧
      (s.params.nesting = .fullyNested → ∀ j : Irq, irqBit t.pic.isr j =
        (irqBit s.pic.isr j && top s.pic.base s.pic.isr != some j)) ∧
      (s.pic.isr = 0x00#8 → t.pic.base = s.pic.base) ∧
      (∀ j : Irq, top s.pic.base s.pic.isr = some j → t.pic.base.toNat = (j.toNat + 1) % 8))

/-- 41_pic R152: rotate on specific EOI clears the named bit and makes the named IRQ the lowest, whether or not it was
in service: after it the rank of L is 7. -/
def Obligations.RotateSpecificEoiMakesTheNamedIrqLowest : Prop :=
  ∀ (s : State) (l : Irq), ∃ t, exec (.picOcw2RotateSpecificEoi l) s = .next t ∧
    t = { s with pic := { s.pic with isr := t.pic.isr, base := t.pic.base, rot := true } } ∧
    (∀ j : Irq, irqBit t.pic.isr j = (irqBit s.pic.isr j && j != l)) ∧
    t.pic.base.toNat = (l.toNat + 1) % 8 ∧ rank t.pic.base l = 7

/-- 41_pic R153: OCW3. -/
def Obligations.Ocw3SelectsTheStatusRead : Prop :=
  ∀ (s : State) (b7 esmm smm p rr ris : Bool), exec (.picOcw3 b7 esmm smm p rr ris) s = .next { s with
    pic := { s.pic with readIsr := if rr = true then ris else s.pic.readIsr }
    diag := if esmm = true then s.diag ++ [⟨.picSmm, some 0x20#16⟩] else s.diag }

/-- 41_pic R158, R159, R160: the mask write, and the two reads of the PIC. -/
def Obligations.MaskAndStatusReads : Prop :=
  ∀ s : State,
    (∀ v : Byte, exec (.picOcw1 v) s = .next { s with pic := { s.pic with imr := v } }) ∧
    exec .picReadStatus s = .next { s with
      ret := .byte (if s.pic.readIsr = true then s.pic.isr else s.pic.irr) } ∧
    exec .picReadImr s = .next { s with ret := .byte s.pic.imr }

/-- 41_pic R161: `push_irq(n)` sets `irr[n]` on an unmasked line, leaves no trace on a masked one, and is diagnosed
beyond line 7. -/
def Obligations.PushIrqRaisesUnmaskedLinesOnly : Prop :=
  ∀ (s : State) (n : Nat),
    (8 ≤ n → exec (.hostPushIrq n) s = .next { s with diag := s.diag ++ [⟨.irqRange, none⟩] }) ∧
    (∀ i : Irq, n = i.toNat → irqBit s.pic.imr i = true → exec (.hostPushIrq n) s = .next s) ∧
    (∀ i : Irq, n = i.toNat → irqBit s.pic.imr i = false → ∃ t, exec (.hostPushIrq n) s = .next t ∧
      t = { s with pic := { s.pic with irr := t.pic.irr } } ∧
      ∀ j : Irq, irqBit t.pic.irr j = (irqBit s.pic.irr j || j == i))

/-- 41_pic R165: `attach(n, dev)` replaces the device of line n and of no other line, and is diagnosed beyond line 7. -/
def Obligations.AttachReplacesOneLine : Prop :=
  ∀ (s : State) (n : Nat) (d : Device),
    (8 ≤ n → exec (.hostAttach n d) s = .next { s with diag := s.diag ++ [⟨.irqRange, none⟩] }) ∧
    (∀ i : Irq, n = i.toNat → ∃ t, exec (.hostAttach n d) s = .next t ∧
      t = { s with pic := { s.pic with attached := t.pic.attached } } ∧
      ∀ j : Irq, deviceAt t.pic.attached j = if j = i then some d else deviceAt s.pic.attached j)

/-- 41_pic R162 with 42_pit R199 and 43_cmos_rtc R264: phase 1 of the poll, for every table of attached devices. It
writes only the PIT, the CMOS and IRR; a request bit never goes, and one that appears is of an unmasked line with a
device attached. An external device's line gets its bit when the device asks and the line is not masked. An attached PIT
is left as its own poll leaves it, and so is an attached CMOS; the lowest line of each gets its bit when that poll asks
and the line is not masked, and further lines of the same device get none, since its second poll finds nothing new. A
unit that is attached to no line is not polled. -/
def Obligations.PollPhaseOneCollectsRequests : Prop :=
  ∀ s : State, ∃ (t p c : State) (pitAsks cmosAsks : Bool),
    exec .hostPollAttachedDevices s = .next t ∧
    exec .hostPitPollIrq s = .next p ∧ p.ret = .asserted pitAsks ∧
    exec .hostCmosPollIrq s = .next c ∧ c.ret = .asserted cmosAsks ∧
    t = { s with pit := t.pit, cmos := t.cmos, pic := { s.pic with irr := t.pic.irr } } ∧
    (∀ i : Irq, irqBit s.pic.irr i = true → irqBit t.pic.irr i = true) ∧
    (∀ i : Irq, irqBit s.pic.irr i = false → irqBit t.pic.irr i = true →
      irqBit s.pic.imr i = false ∧ deviceAt s.pic.attached i ≠ none) ∧
    (∀ (i : Irq) (d : Nat), deviceAt s.pic.attached i = some (.ext d) →
      irqBit t.pic.irr i = (irqBit s.pic.irr i || (irqBit s.inp.ext i && !irqBit s.pic.imr i))) ∧
    (∀ i : Irq, deviceAt s.pic.attached i = some .pit →
      (∀ j : Irq, j.toNat < i.toNat → deviceAt s.pic.attached j ≠ some .pit) →
      irqBit t.pic.irr i = (irqBit s.pic.irr i || (pitAsks && !irqBit s.pic.imr i))) ∧
    (∀ i j : Irq, deviceAt s.pic.attached i = some .pit → j.toNat < i.toNat →
      deviceAt s.pic.attached j = some .pit → irqBit t.pic.irr i = irqBit s.pic.irr i) ∧
    (∀ i : Irq, deviceAt s.pic.attached i = some .pit → t.pit = p.pit) ∧
    ((∀ i : Irq, deviceAt s.pic.attached i ≠ some .pit) → t.pit = s.pit) ∧
    (∀ i : Irq, deviceAt s.pic.attached i = some .cmos →
      (∀ j : Irq, j.toNat < i.toNat → deviceAt s.pic.attached j ≠ some .cmos) →
      irqBit t.pic.irr i = (irqBit s.pic.irr i || (cmosAsks && !irqBit s.pic.imr i))) ∧
    (∀ i j : Irq, deviceAt s.pic.attached i = some .cmos → j.toNat < i.toNat →
      deviceAt s.pic.attached j = some .cmos → irqBit t.pic.irr i = irqBit s.pic.irr i) ∧
    (∀ i : Irq, deviceAt s.pic.attached i = some .cmos → t.cmos = c.cmos) ∧
    ((∀ i : Irq, deviceAt s.pic.attached i ≠ some .cmos) → t.cmos = s.cmos)

/-- 41_pic R163: phase 2 names i exactly when i is pending and unmasked, no pending unmasked request has a lower rank,
and what is in service lets it pass: nothing at all under single nesting, only IRQs of higher rank number under fully
nested. -/
def Obligations.ResolutionNamesTheWinner : Prop :=
  ∀ s : State, ∃ w : Option Irq, exec .hostPollResolve s = .next { s with ret := .winner w } ∧
    ∀ i : Irq, w = some i ↔
      (irqBit s.pic.irr i = true ∧ irqBit s.pic.imr i = false ∧
       (∀ j : Irq, irqBit s.pic.irr j = true → irqBit s.pic.imr j = false → rank s.pic.base i ≤ rank s.pic.base j) ∧
       (s.params.nesting = .single → s.pic.isr = 0x00#8) ∧
       (s.params.nesting = .fullyNested → ∀ j : Irq, irqBit s.pic.isr j = true → rank s.pic.base i < rank s.pic.base j))

/-- 41_pic R164 with R141, 60_exceptions R287: the grant clears the request bit, sets the in-service bit (or, under
AEOI, sets none and rotates past i if rotation is on), and hands the CPU `trunc_8(vbase + i)`; nothing else changes
(`delivered` and `ret` are the model's, log 7). -/
def Obligations.GrantTakesTheInterrupt : Prop :=
  ∀ (s : State) (i : Irq), ∃ t, exec (.hostPollGrant i) s = .next t ∧
    t = { s with
      pic := { s.pic with irr := t.pic.irr, isr := t.pic.isr, base := t.pic.base }
      delivered := s.delivered ++ [BitVec.ofNat 8 (s.pic.vbase.toNat + i.toNat)]
      ret := .vector (some (BitVec.ofNat 8 (s.pic.vbase.toNat + i.toNat))) } ∧
    (∀ j : Irq, irqBit t.pic.irr j = (irqBit s.pic.irr j && j != i)) ∧
    (s.pic.aeoi = false →
      t.pic.base = s.pic.base ∧ ∀ j : Irq, irqBit t.pic.isr j = (irqBit s.pic.isr j || j == i)) ∧
    (s.pic.aeoi = true →
      t.pic.isr = s.pic.isr ∧ t.pic.base.toNat = if s.pic.rot = true then (i.toNat + 1) % 8 else s.pic.base.toNat)

/-- 41_pic R162 to R164, 60_exceptions R286 and R295, at the level of one step: `poll()` collects the requests, and
delivers either nothing or the one vector of an unmasked pending line of least rank (one step for the three phases is
log 11). -/
def Obligations.PollDeliversTheHighestRequest : Prop :=
  ∀ (s : State) (inp : Inputs) (rest : List Request), s.Issues .poll inp rest →
    ∃ u t, exec .hostPollAttachedDevices { s with pending := rest, inp := inp, ret := .nothing } = .next u ∧
      step s = .next t ∧
      ((u.pic.resolve u.params.nesting = none ∧ t = { u with ret := .vector none }) ∨
       (∃ i : Irq, u.pic.resolve u.params.nesting = some i ∧
         irqBit u.pic.irr i = true ∧ irqBit u.pic.imr i = false ∧
         (∀ j : Irq, irqBit u.pic.irr j = true → irqBit u.pic.imr j = false →
           rank u.pic.base i ≤ rank u.pic.base j) ∧
         t.delivered = s.delivered ++ [s.pic.vbase + i.setWidth 8] ∧
         t.pit = u.pit ∧ t.cmos = u.cmos ∧ t.diag = s.diag))

/-- 41_pic R163, 60_exceptions R288: under single nesting, nothing is delivered while any IRQ is in service. -/
def Obligations.SingleNestingHoldsBackEveryGrant : Prop :=
  ∀ (s t : State), s.params.nesting = .single → s.pic.isr ≠ 0x00#8 → step s = .next t → t.delivered = s.delivered

/-- 41_pic R166 (a): a line that is masked before and after a step does not enter service in it. -/
def Obligations.MaskedLineNeverEntersService : Prop :=
  ∀ (s t : State) (n : Irq), step s = .next t → irqBit s.pic.imr n = true → irqBit t.pic.imr n = true →
    irqBit s.pic.isr n = false → irqBit t.pic.isr n = false

/-- 41_pic R166 (b): the priority base changes only in OCW2 commands 5, 6 and 7 and in a grant under AEOI with rotation
on. -/
def Obligations.BaseMovesOnlyByRotation : Prop :=
  ∀ (i : Instr) (s t : State), exec i s = .next t → t.pic.base ≠ s.pic.base →
    (∃ l, i = .picOcw2RotateNonspecificEoi l) ∨ (∃ l, i = .picOcw2SetPriority l) ∨
    (∃ l, i = .picOcw2RotateSpecificEoi l) ∨
    (∃ k, i = .hostPollGrant k ∧ s.pic.aeoi = true ∧ s.pic.rot = true)

/-- 60_exceptions R288 with 41_pic R148: the specific EOI of the IRQ just granted, without AEOI and with the line not in
service before, puts ISR back as it was: the return from an interrupt undoes its entry. -/
def Obligations.EoiUndoesTheGrant : Prop :=
  ∀ (s : State) (i : Irq), s.pic.aeoi = false → irqBit s.pic.isr i = false →
    ∃ t u, exec (.hostPollGrant i) s = .next t ∧ exec (.picOcw2SpecificEoi i) t = .next u ∧
      u.pic.isr = s.pic.isr ∧ irqBit t.pic.isr i = true ∧ u.pic.base = s.pic.base

/-! ## PIT -/

/-- 42_pit R180 to R182: the effective reload lies in 1..65536, 0 standing for 65536, the half is the integer half, the
tick count is the floor of t * 1193182 / 10^9, and the ticks from a to b add up over any time between. -/
def Obligations.ReloadsAndTicks : Prop :=
  (∀ r : Count, 1 ≤ eff r ∧ eff r ≤ 65536 ∧ (eff r = 65536 ↔ r = 0#16) ∧ (r ≠ 0#16 → eff r = r.toNat)) ∧
  (∀ n : Nat, half n + half n ≤ n ∧ n ≤ half n + half n + 1) ∧
  (∀ t : Nat, ticksAt t * 1000000000 ≤ t * 1193182 ∧ t * 1193182 < (ticksAt t + 1) * 1000000000) ∧
  (∀ a b c : Nat, a ≤ b → b ≤ c → ticksAt c - ticksAt a = (ticksAt b - ticksAt a) + (ticksAt c - ticksAt b)) ∧
  ticksAt 858209 = 1023 ∧ ticksAt 1000000000 = 1193182

/-- 42_pit R185: the closed-form fold equals that many ticks, for every channel that runs with at least one tick left or
does not run (10_state R46), whatever its output, reload and count. That the closed form of mode 3 goes beyond the
precondition which R185 gives for the output is the model's inference (log 12). -/
def Obligations.FoldIsThatManyTicks : Prop :=
  ∀ (c : Channel) (n : Nat), (c.running = true → 1 ≤ c.cur) → c.fold n = c.ticks n

/-- 42_pit R184 and the closed forms of R185, for that many ticks: counts, crossings and edge in modes 2 and 3, what one
tick does to the output of a mode-3 count, its output after any ticks when it starts in step with its counter, and the
end of a mode-0 count. -/
def Obligations.TicksHaveTheClosedForms : Prop :=
  ∀ (c : Channel) (n : Nat), c.running = true → 1 ≤ c.cur →
    (n < c.cur → (c.ticks n).cur = c.cur - n ∧ (c.ticks n).edge = c.edge ∧ (c.ticks n).running = true) ∧
    (c.cur ≤ n → c.mode ≠ .mode0 →
      (c.ticks n).cur = eff c.reload - (n - c.cur) % eff c.reload ∧ (c.ticks n).edge = true ∧
      (c.ticks n).running = true) ∧
    (c.mode = .mode2 → (c.ticks n).out = c.out) ∧
    (c.mode = .mode3 → c.tick1.out =
      ((c.out ^^ decide (half (eff c.reload) < c.cur ∧ c.cur - 1 ≤ half (eff c.reload))) ^^ decide (c.cur = 1))) ∧
    (c.mode = .mode3 → c.cur ≤ eff c.reload → c.out = decide (half (eff c.reload) < c.cur) →
      (c.ticks n).out = decide (half (eff c.reload) < (c.ticks n).cur)) ∧
    (c.cur ≤ n → c.mode = .mode0 →
      (c.ticks n).cur = 0 ∧ (c.ticks n).running = false ∧ (c.ticks n).out = true ∧ (c.ticks n).edge = true)

/-- 42_pit R201: splitting an interval at an extra reconciliation yields the same PIT, for every PIT that meets 10_state
R46. -/
def Obligations.ExtraReconciliationIsUnobservable : Prop :=
  ∀ (p : Pit) (t1 t2 : Nat), p.Good → t1 ≤ t2 → (p.reconcile t1).reconcile t2 = p.reconcile t2

/-- 42_pit R183 and 30_encoding R91: with no time elapsed a reconciliation does nothing; with time elapsed it folds into
every channel the ticks from the last one to now, one `tick1` after another (R185), for every PIT that meets 10_state
R46, and takes now as the time of the last one. It leaves every register the decoder reads, and every register but
counter, output, run flag and edge, as it is. -/
def Obligations.ReconciliationKeepsTheConfiguration : Prop :=
  ∀ (p : Pit) (now : Nat),
    (now ≤ p.last → p.reconcile now = p) ∧ (p.last < now → (p.reconcile now).last = now) ∧
    (p.Good → p.last < now → ∀ k : PitChan,
      (p.reconcile now).chan k = (p.chan k).ticks (ticksAt now - ticksAt p.last)) ∧
    ∀ k : PitChan, (p.reconcile now).chan k = { p.chan k with
      cur := ((p.reconcile now).chan k).cur, out := ((p.reconcile now).chan k).out,
      running := ((p.reconcile now).chan k).running, edge := ((p.reconcile now).chan k).edge }

/-- 42_pit R200 (a): a mode-0 count of N started by a write has its output low for N ticks and high from then on, and
stops frozen at 0. -/
def Obligations.OneShotRisesOnceAtItsCount : Prop :=
  ∀ (c : Channel) (n : Nat), c.mode = .mode0 →
    (c.start.ticks n).out = decide (eff c.reload ≤ n) ∧ (c.start.ticks n).running = decide (n < eff c.reload) ∧
    (c.start.ticks n).cur = eff c.reload - n

/-- 42_pit R200 (b): a square wave of N started by a write is high for the first N - N div 2 ticks of every N, so for
(N + 1) div 2 of them. -/
def Obligations.SquareWaveDutyCycle : Prop :=
  ∀ (c : Channel), c.mode = .mode3 →
    (∀ n : Nat, (c.start.ticks n).out = decide (half (eff c.reload) < eff c.reload - n % eff c.reload)) ∧
    ((List.range (eff c.reload)).filter (fun n => (c.start.ticks n).out)).length = (eff c.reload + 1) / 2

/-- 42_pit R190, R191 with R189 and R194: a byte written in a one-byte access mode is the low or the high byte of the
reload, the other byte being 0, and starts the count at once; 0 counts 65536. -/
def Obligations.OneByteCountStartsTheChannel : Prop :=
  ∀ (s : State) (k : PitChan) (v : Byte) (c : Channel), (s.pit.reconcile s.inp.mono).chan k = c →
    exec (pitWriteLo k v) s = .next { s with pit := (s.pit.reconcile s.inp.mono).setChan k { c with
      reload := BitVec.ofNat 16 v.toNat, cur := if v = 0x00#8 then 65536 else v.toNat, running := true,
      out := decide (c.mode ≠ .mode0) } } ∧
    exec (pitWriteHi k v) s = .next { s with pit := (s.pit.reconcile s.inp.mono).setChan k { c with
      reload := BitVec.ofNat 16 (v.toNat * 256), cur := if v = 0x00#8 then 65536 else v.toNat * 256, running := true,
      out := decide (c.mode ≠ .mode0) } }

/-- 42_pit R192, R193 with R189 and R194: the low byte of a two-byte count only stores and moves the cursor; the high
byte completes the reload and starts the count. -/
def Obligations.TwoByteCountBytes : Prop :=
  ∀ (s : State) (k : PitChan) (v : Byte) (c : Channel), (s.pit.reconcile s.inp.mono).chan k = c →
    exec (pitWriteLohiLow k v) s = .next { s with pit := (s.pit.reconcile s.inp.mono).setChan k { c with
      reload := BitVec.ofNat 16 (c.reload.toNat / 256 * 256 + v.toNat), cursor := .high } } ∧
    exec (pitWriteLohiHigh k v) s = .next { s with pit := (s.pit.reconcile s.inp.mono).setChan k { c with
      reload := BitVec.ofNat 16 (v.toNat * 256 + c.reload.toNat % 256), cursor := .low,
      cur := (if v.toNat * 256 + c.reload.toNat % 256 = 0 then 65536 else v.toNat * 256 + c.reload.toNat % 256),
      running := true, out := decide (c.mode ≠ .mode0) } }

/-- 70_reset_and_hazards R313 and R316, 20_memory R74, by two steps (the list of operations is log 1): in LOHI access
mode with the cursor low, the low byte and then the high byte, written at any two times, start the channel at their
16-bit count, 0 standing for 65536, whatever it counted between. -/
def Obligations.ProgrammingAChannelStartsItsCount : Prop :=
  ∀ (s : State) (k : PitChan) (lo hi : Byte) (i1 i2 : Inputs) (rest : List Request), (s.pit.chan k).access = .lohi →
    (s.pit.chan k).cursor = .low →
    s.pending = ⟨.port (outAccess (dataPort k) lo), i1⟩ :: ⟨.port (outAccess (dataPort k) hi), i2⟩ :: rest →
    ∃ t1 t2, step s = .next t1 ∧ step t1 = .next t2 ∧
      (t2.pit.chan k).running = true ∧ (t2.pit.chan k).reload.toNat = hi.toNat * 256 + lo.toNat ∧
      (t2.pit.chan k).cur = (if hi.toNat * 256 + lo.toNat = 0 then 65536 else hi.toNat * 256 + lo.toNat) ∧
      (t2.pit.chan k).cursor = .low ∧ t2.pic = s.pic ∧ t2.cmos = s.cmos ∧ t2.diag = s.diag ∧ t2.pending = rest

/-- 42_pit R187 and R188: the latch command takes its snapshot only when none is held, and changes nothing else; the
mode-setting word resets the channel but for its edge and its latched value. -/
def Obligations.LatchAndModeWords : Prop :=
  ∀ (s : State) (k : PitChan) (c : Channel), (s.pit.reconcile s.inp.mono).chan k = c →
    (∀ low : BitVec 4, exec (pitCtlLatch k low) s = .next { s with pit := (s.pit.reconcile s.inp.mono).setChan k { c with
      latchVal := (if c.latchLeft = 0 then BitVec.ofNat 16 c.cur else c.latchVal),
      latchLeft := (if c.latchLeft = 0 then (if c.access = .lohi then 2 else 1) else c.latchLeft) } }) ∧
    (∀ (m : PitMode) (rw : Access), exec (pitCtlSetMode m k rw) s = .next { s with
      pit := (s.pit.reconcile s.inp.mono).setChan k
        { mode := m, access := rw, reload := 0#16, cur := 0, running := false, out := true, cursor := .low,
          latchLeft := 0, latchVal := c.latchVal, edge := c.edge } })

/-- 42_pit R186: a rejected control word appends its one diagnostic; the reconciliation before it ran (log 15). -/
def Obligations.RejectedControlWordsAreDiagnosedOnly : Prop :=
  ∀ (s : State) (low : BitVec 6) (k : PitChan) (rw : Access) (m : BitVec 3),
    exec (.pitCtlBadChannel low) s = .next { s with
      pit := s.pit.reconcile s.inp.mono, diag := s.diag ++ [⟨.pitBadChannel, some 0x43#16⟩] } ∧
    exec (.pitCtlBcd k rw m) s = .next { s with
      pit := s.pit.reconcile s.inp.mono, diag := s.diag ++ [⟨.pitBcd, some 0x43#16⟩] } ∧
    exec (.pitCtlBadMode k rw m) s = .next { s with
      pit := s.pit.reconcile s.inp.mono, diag := s.diag ++ [⟨.pitBadMode, some 0x43#16⟩] }

/-- 42_pit R195, R196, R197: the byte a data-port read returns, of the latched value or of the live count, and what it
moves. -/
def Obligations.DataPortReads : Prop :=
  ∀ (s : State) (k : PitChan) (c : Channel), (s.pit.reconcile s.inp.mono).chan k = c →
    ∃ high : Bool, (high = true ↔ c.access = .hi ∨ (c.access = .lohi ∧ c.cursor = .high)) ∧
    exec (pitReadLatched k) s = .next { s with
      ret := .byte (BitVec.ofNat 8 (if high = true then c.latchVal.toNat / 256 else c.latchVal.toNat % 256))
      pit := (s.pit.reconcile s.inp.mono).setChan k { c with
        latchLeft := c.latchLeft - 1
        cursor := if c.access = .lohi then (if high = true then .low else .high) else c.cursor } } ∧
    exec (pitReadLive k) s = .next { s with
      ret := .byte (BitVec.ofNat 8 (if high = true then c.cur % 65536 / 256 else c.cur % 256))
      pit := (s.pit.reconcile s.inp.mono).setChan k { c with
        cursor := if c.access = .lohi then (if high = true then .low else .high) else c.cursor } }

/-- 42_pit R187, R196, 70_reset_and_hazards R313 and R317, by three steps (the list of operations is log 1): on a
channel in LOHI access mode, with the cursor low and no latch held, the channel's latch command, whatever its bits 3:0,
and then two reads of its data port, at any three times, return the low and the high byte of the count as it was at the
latch command, and the latch is then gone. -/
def Obligations.LatchedReadIsOneSnapshot : Prop :=
  ∀ (s : State) (k : PitChan) (v : Byte) (i0 i1 i2 : Inputs) (rest : List Request),
    (s.pit.chan k).access = .lohi → (s.pit.chan k).cursor = .low → (s.pit.chan k).latchLeft = 0 →
    v.toNat / 64 + 0x40 = (dataPort k).toNat → v.toNat / 16 % 4 = 0 →
    s.pending = ⟨.port (outAccess 0x43#16 v), i0⟩ :: ⟨.port (inAccess (dataPort k)), i1⟩ ::
      ⟨.port (inAccess (dataPort k)), i2⟩ :: rest →
    ∃ t1 t2 t3 : State, step s = .next t1 ∧ step t1 = .next t2 ∧ step t2 = .next t3 ∧
      t2.ret = .byte (BitVec.ofNat 8 ((s.pit.reconcile i0.mono).chan k).cur) ∧
      t3.ret = .byte (BitVec.ofNat 8 (((s.pit.reconcile i0.mono).chan k).cur / 256)) ∧
      (t3.pit.chan k).latchLeft = 0 ∧ (t3.pit.chan k).cursor = .low ∧ t3.diag = s.diag ∧ t3.pending = rest

/-- 42_pit R199: the PIT's poll reports and clears channel 0's edge latch, after reconciling, and clears no other. -/
def Obligations.PitPollTakesTheEdge : Prop :=
  ∀ s : State, ∃ t, exec .hostPitPollIrq s = .next t ∧
    t.ret = .asserted (s.pit.reconcile s.inp.mono).ch0.edge ∧ t.pit.ch0.edge = false ∧
    t.pit = { s.pit.reconcile s.inp.mono with ch0 := { (s.pit.reconcile s.inp.mono).ch0 with edge := false } } ∧
    t = { s with pit := t.pit, ret := t.ret }

/-! ## CMOS/RTC -/

/-- 43_cmos_rtc R233, R234, R265: the encodings of 0..99 and of the hours, and that decoding inverts them in every mode;
the free byte of log 6 is not met. -/
def Obligations.EncodingsRoundTrip : Prop :=
  (∀ (b : Bool) (n : Nat), n ≤ 99 → dec b (enc b n) = n) ∧
  (∀ (b h24 : Bool) (h : Nat), h ≤ 23 → decHour b h24 (encHour b h24 h) = h) ∧
  (∀ n : Nat, n ≤ 99 → (enc true n).toNat = n ∧ (enc false n).toNat = n / 10 * 16 + n % 10) ∧
  (∀ (b : Bool) (h : Nat), h ≤ 23 → (encHour b false h).getLsbD 7 = decide (12 ≤ h) ∧
    encHour b false h &&& 0x7F#8 = enc b (if h % 12 = 0 then 12 else h % 12))

/-- 43_cmos_rtc R236 to R243: the eight time-field reads. -/
def Obligations.TimeFieldReads : Prop :=
  ∀ s : State,
    exec .cmosReadSeconds s = .next { s with ret := .byte (enc s.cmos.binary s.inp.wall.sec) } ∧
    exec .cmosReadMinutes s = .next { s with ret := .byte (enc s.cmos.binary s.inp.wall.min) } ∧
    exec .cmosReadHours s = .next { s with ret := .byte (encHour s.cmos.binary s.cmos.h24 s.inp.wall.hour) } ∧
    exec .cmosReadWeekday s = .next { s with ret := .byte (enc s.cmos.binary (s.inp.wall.wday + 1)) } ∧
    exec .cmosReadDay s = .next { s with ret := .byte (enc s.cmos.binary s.inp.wall.day) } ∧
    exec .cmosReadMonth s = .next { s with ret := .byte (enc s.cmos.binary s.inp.wall.month) } ∧
    exec .cmosReadYear s = .next { s with ret := .byte (enc s.cmos.binary (s.inp.wall.year % 100)) } ∧
    exec .cmosReadCentury s = .next { s with ret := .byte (enc s.cmos.binary (s.inp.wall.year / 100 % 100)) }

/-- 43_cmos_rtc R244 to R248, R250, R251: the alarm, status A, B and D and fixed-byte reads. The fixed byte is the one
that `CMOS_ROM` lists at the index, and 0x00 at an index that it does not list (10_state R55). -/
def Obligations.StoredRegisterReads : Prop :=
  ∀ s : State,
    exec .cmosReadAlarmSeconds s = .next { s with ret := .byte s.cmos.alarmS } ∧
    exec .cmosReadAlarmMinutes s = .next { s with ret := .byte s.cmos.alarmM } ∧
    exec .cmosReadAlarmHours s = .next { s with ret := .byte s.cmos.alarmH } ∧
    exec .cmosReadStatusA s = .next { s with ret := .byte (BitVec.ofNat 8 s.cmos.rega.toNat) } ∧
    exec .cmosReadStatusB s = .next { s with ret := .byte (BitVec.ofNat 8
      (s.cmos.pie.toNat * 64 + s.cmos.aie.toNat * 32 + s.cmos.uie.toNat * 16 + s.cmos.binary.toNat * 4 +
        s.cmos.h24.toNat * 2)) } ∧
    exec .cmosReadStatusD s = .next { s with ret := .byte 0x80#8 } ∧
    exec .cmosReadFixed s = .next { s with ret := .byte (romRead s.params.cmosRom s.cmos.index.toNat) } ∧
    (∀ b : Byte, Rom.wf s.params.cmosRom = true → (s.cmos.index.toNat, b) ∈ s.params.cmosRom →
      exec .cmosReadFixed s = .next { s with ret := .byte b }) ∧
    ((∀ b : Byte, (s.cmos.index.toNat, b) ∉ s.params.cmosRom) →
      exec .cmosReadFixed s = .next { s with ret := .byte 0x00#8 })

/-- 43_cmos_rtc R249, R266 (a): the status-C read reports IRQF and the three flags, clears them and the line, and a
second read reports 0. -/
def Obligations.StatusCReadClearsTheFlags : Prop :=
  ∀ s : State, ∃ t u : State,
    exec .cmosReadStatusC s = .next t ∧
    t = { s with
      cmos := { s.cmos with pf := false, af := false, uf := false, line := false }
      ret := .byte (BitVec.ofNat 8
        (((s.cmos.pie && s.cmos.pf) || (s.cmos.aie && s.cmos.af) || (s.cmos.uie && s.cmos.uf)).toNat * 128 +
          s.cmos.pf.toNat * 64 + s.cmos.af.toNat * 32 + s.cmos.uf.toNat * 16)) } ∧
    exec .cmosReadStatusC t = .next u ∧ u.ret = .byte 0x00#8

/-- 43_cmos_rtc R230, R253 to R259: the writes of the CMOS ports. -/
def Obligations.CmosWrites : Prop :=
  ∀ s : State,
    (∀ (b7 : Bool) (n : BitVec 7), exec (.cmosIndexWrite b7 n) s = .next { s with
      cmos := { s.cmos with index := n } }) ∧
    (∀ v : Byte, exec (.cmosWriteAlarmSeconds v) s = .next { s with cmos := { s.cmos with alarmS := v } } ∧
      exec (.cmosWriteAlarmMinutes v) s = .next { s with cmos := { s.cmos with alarmM := v } } ∧
      exec (.cmosWriteAlarmHours v) s = .next { s with cmos := { s.cmos with alarmH := v } } ∧
      exec (.cmosWriteStatusCd v) s = .next { s with diag := s.diag ++ [⟨.roWrite, some 0x71#16⟩] } ∧
      exec (.cmosWriteOther v) s = .next s) ∧
    (∀ (uip : Bool) (a : BitVec 7), exec (.cmosWriteStatusA uip a) s = .next { s with
      cmos := { s.cmos with rega := a } }) ∧
    (∀ set pie aie uie sqwe dm h24 dse : Bool, exec (.cmosWriteStatusB set pie aie uie sqwe dm h24 dse) s = .next { s with
      cmos := { s.cmos with pie := pie, aie := aie, uie := uie, binary := dm, h24 := h24 } })

/-- 43_cmos_rtc R256 and R257 with R247 and R248, 30_encoding R109 and R110, by two steps (log 1): a byte written to
status A or B and read back gives its stored bits: 6:0 of A, and 6, 5, 4, 2 and 1 of B. -/
def Obligations.StatusBytesReadBack : Prop :=
  ∀ (s : State) (v : Byte) (i1 i2 : Inputs) (rest : List Request), s.cmos.index = 0x0A#7 ∨ s.cmos.index = 0x0B#7 →
    s.pending = ⟨.port (outAccess 0x71#16 v), i1⟩ :: ⟨.port (inAccess 0x71#16), i2⟩ :: rest →
    ∃ t1 t2, step s = .next t1 ∧ step t1 = .next t2 ∧
      t2.ret = .byte (v &&& (if s.cmos.index = 0x0A#7 then 0x7F#8 else 0x76#8)) ∧ t2.diag = s.diag ∧
      t2.pending = rest

/-- 43_cmos_rtc R260, R263: the periodic rates, and that the periodic source fires exactly when a period boundary of the
rate, counted from monotonic time 0, falls in (last_mono, m]. -/
def Obligations.PeriodicSourceFiresOnABoundary : Prop :=
  (periodicRate 0#4 = 0 ∧ periodicRate 1#4 = 256 ∧ periodicRate 2#4 = 128 ∧
    ∀ rs : BitVec 4, 3 ≤ rs.toNat → periodicRate rs * 2 ^ (rs.toNat - 1) = 32768) ∧
  ∀ (c : Cmos) (m : Nat), c.periodDue m = true ↔
    ∃ k : Nat, c.lastMono * periodicRate (BitVec.ofNat 4 c.rega.toNat) < k * 1000000000 ∧
      k * 1000000000 ≤ m * periodicRate (BitVec.ofNat 4 c.rega.toNat)

/-- 43_cmos_rtc R261, R262, R264: the CMOS's poll sets the flags whatever the enables hold, takes the times of this
poll, and answers true exactly when IRQF rises. -/
def Obligations.CmosPollRaisesOnRisingIrqf : Prop :=
  ∀ s : State, ∃ t, exec .hostCmosPollIrq s = .next t ∧ t = { s with cmos := t.cmos, ret := t.ret } ∧
    t.cmos = { s.cmos with
      uf := s.cmos.uf || decide (s.inp.wall ≠ s.cmos.lastWall)
      af := s.cmos.af || decide (s.inp.wall ≠ s.cmos.lastWall ∧
        (0xC0 ≤ s.cmos.alarmS.toNat ∨ s.cmos.alarmS = enc s.cmos.binary s.inp.wall.sec) ∧
        (0xC0 ≤ s.cmos.alarmM.toNat ∨ s.cmos.alarmM = enc s.cmos.binary s.inp.wall.min) ∧
        (0xC0 ≤ s.cmos.alarmH.toNat ∨ s.cmos.alarmH = encHour s.cmos.binary s.cmos.h24 s.inp.wall.hour))
      pf := s.cmos.pf || s.cmos.periodDue s.inp.mono
      lastWall := s.inp.wall
      lastMono := max s.cmos.lastMono s.inp.mono
      line := (s.cmos.pie && t.cmos.pf) || (s.cmos.aie && t.cmos.af) || (s.cmos.uie && t.cmos.uf) } ∧
    t.ret = .asserted (t.cmos.line && !s.cmos.line)
end

