-- ==== Sys2Proof/Laws/Decode.lean ====
section
/-!
SUPPORT. The fields of an access word, and what the decoder does with the word of a write and of a read
(30_encoding R90).
-/

namespace Sys2Proof

/-! ## Bits and fields of an access word -/

theorem getLsbD_writeWord (p : Port) (v : Byte) (k : Nat) :
    (writeWord p v).getLsbD k =
      if k < 8 then v.getLsbD k else if k - 8 < 16 then p.getLsbD (k - 8) else (1#1).getLsbD (k - 24) := by
  have h1 := BitVec.getLsbD_append (i := k) (x := 1#1 ++ p) (y := v)
  have h2 := BitVec.getLsbD_append (i := k - 8) (x := 1#1) (y := p)
  rw [h2] at h1
  have : k - 24 = k - 8 - 16 := by omega
  rw [this]
  exact h1

theorem getLsbD_readWord (p : Port) (k : Nat) :
    (readWord p).getLsbD k = if k < 8 then false else if k - 8 < 16 then p.getLsbD (k - 8) else false := by
  have h1 := BitVec.getLsbD_append (i := k) (x := 0#1 ++ p) (y := 0#8)
  have h2 := BitVec.getLsbD_append (i := k - 8) (x := 0#1) (y := p)
  rw [h2] at h1
  refine Eq.trans (b := (0#1 ++ p ++ 0#8 : BitVec (1 + 16 + 8)).getLsbD k) rfl (h1.trans ?_)
  simp

@[simp] theorem isWrite_writeWord (p : Port) (v : Byte) : AccessWord.isWrite (writeWord p v) = true := by
  simp [AccessWord.isWrite, getLsbD_writeWord]

@[simp] theorem port_writeWord (p : Port) (v : Byte) : AccessWord.port (writeWord p v) = p := by
  apply BitVec.eq_of_getLsbD_eq
  intro k hk
  rw [AccessWord.port, BitVec.getLsbD_extractLsb', getLsbD_writeWord]
  simp [hk]

@[simp] theorem byte_writeWord (p : Port) (v : Byte) : AccessWord.byte (writeWord p v) = v := by
  apply BitVec.eq_of_getLsbD_eq
  intro k hk
  rw [AccessWord.byte, BitVec.getLsbD_extractLsb', getLsbD_writeWord]
  simp [hk]

@[simp] theorem isWrite_readWord (p : Port) : AccessWord.isWrite (readWord p) = false := by
  rw [AccessWord.isWrite, getLsbD_readWord]
  rfl

@[simp] theorem port_readWord (p : Port) : AccessWord.port (readWord p) = p := by
  apply BitVec.eq_of_getLsbD_eq
  intro k hk
  rw [AccessWord.port, BitVec.getLsbD_extractLsb', getLsbD_readWord]
  simp [hk]

/-- The bits above the byte of a written word are its direction and port. -/
theorem writeWord_and_high (p : Port) (v : Byte) : writeWord p v &&& 0x1FFFF00#25 = writeWord p 0x00#8 := by
  apply BitVec.eq_of_getLsbD_eq
  intro k hk
  have hm : ∀ j : Fin 25, (0x1FFFF00#25).getLsbD j.val = decide (8 ≤ j.val) := by decide
  rw [BitVec.getLsbD_and, hm ⟨k, hk⟩, getLsbD_writeWord, getLsbD_writeWord]
  by_cases h8 : k < 8
  · have : ¬ 8 ≤ k := by omega
    simp [h8, this]
  · have : 8 ≤ k := by omega
    simp [h8, this]

/-! ## Decoding a write and a read -/

/-- Everything the decoder does with the word of a write (30_encoding R90, R118). -/
@[simp] theorem decode_writeWord (c : Ctx) (p : Port) (v : Byte) : decode c (writeWord p v) = decodeWrite c p v := by
  rw [decode, isWrite_writeWord, port_writeWord, byte_writeWord, if_pos rfl]

/-- Everything the decoder does with the word of a read (30_encoding R90, R118). -/
@[simp] theorem decode_readWord (c : Ctx) (p : Port) : decode c (readWord p) = decodeRead c p := by
  rw [decode, isWrite_readWord, port_readWord]
  rfl

end Sys2Proof
end

