-- ==== Sys2Proof/Laws/State.lean ====
section
/-!
SUPPORT. What each named update of the state leaves as it is, field by field, and what it writes: so that no later proof
unfolds a record update.
-/

namespace Sys2Proof.Machine

section

variable (s : State)

/-! ### State.raise -/

@[simp] theorem State.raise_pic (code : DiagCode) (port : Option Port) : (s.raise code port).pic = s.pic := rfl
@[simp] theorem State.raise_pit (code : DiagCode) (port : Option Port) : (s.raise code port).pit = s.pit := rfl
@[simp] theorem State.raise_cmos (code : DiagCode) (port : Option Port) : (s.raise code port).cmos = s.cmos := rfl
@[simp] theorem State.raise_diag (code : DiagCode) (port : Option Port) : (s.raise code port).diag = s.diag ++ [⟨code, port⟩] := rfl
@[simp] theorem State.raise_params (code : DiagCode) (port : Option Port) : (s.raise code port).params = s.params := rfl
@[simp] theorem State.raise_inp (code : DiagCode) (port : Option Port) : (s.raise code port).inp = s.inp := rfl
@[simp] theorem State.raise_pending (code : DiagCode) (port : Option Port) : (s.raise code port).pending = s.pending := rfl
@[simp] theorem State.raise_ret (code : DiagCode) (port : Option Port) : (s.raise code port).ret = s.ret := rfl
@[simp] theorem State.raise_delivered (code : DiagCode) (port : Option Port) : (s.raise code port).delivered = s.delivered := rfl
@[simp] theorem State.raise_draws (code : DiagCode) (port : Option Port) : (s.raise code port).draws = s.draws := rfl

/-! ### State.reply -/

@[simp] theorem State.reply_pic (b : Byte) : (s.reply b).pic = s.pic := rfl
@[simp] theorem State.reply_pit (b : Byte) : (s.reply b).pit = s.pit := rfl
@[simp] theorem State.reply_cmos (b : Byte) : (s.reply b).cmos = s.cmos := rfl
@[simp] theorem State.reply_diag (b : Byte) : (s.reply b).diag = s.diag := rfl
@[simp] theorem State.reply_params (b : Byte) : (s.reply b).params = s.params := rfl
@[simp] theorem State.reply_inp (b : Byte) : (s.reply b).inp = s.inp := rfl
@[simp] theorem State.reply_pending (b : Byte) : (s.reply b).pending = s.pending := rfl
@[simp] theorem State.reply_ret (b : Byte) : (s.reply b).ret = .byte b := rfl
@[simp] theorem State.reply_delivered (b : Byte) : (s.reply b).delivered = s.delivered := rfl
@[simp] theorem State.reply_draws (b : Byte) : (s.reply b).draws = s.draws := rfl

/-! ### State.replyNoValue -/

@[simp] theorem State.replyNoValue_pic : (s.replyNoValue).pic = s.pic := rfl
@[simp] theorem State.replyNoValue_pit : (s.replyNoValue).pit = s.pit := rfl
@[simp] theorem State.replyNoValue_cmos : (s.replyNoValue).cmos = s.cmos := rfl
@[simp] theorem State.replyNoValue_diag : (s.replyNoValue).diag = s.diag := rfl
@[simp] theorem State.replyNoValue_params : (s.replyNoValue).params = s.params := rfl
@[simp] theorem State.replyNoValue_inp : (s.replyNoValue).inp = s.inp := rfl
@[simp] theorem State.replyNoValue_pending : (s.replyNoValue).pending = s.pending := rfl
@[simp] theorem State.replyNoValue_ret : (s.replyNoValue).ret = .byte (Config.noValue s.draws) := rfl
@[simp] theorem State.replyNoValue_delivered : (s.replyNoValue).delivered = s.delivered := rfl
@[simp] theorem State.replyNoValue_draws : (s.replyNoValue).draws = s.draws + 1 := rfl

/-! ### State.rejectRead -/

@[simp] theorem State.rejectRead_pic (code : DiagCode) (port : Port) : (s.rejectRead code port).pic = s.pic := rfl
@[simp] theorem State.rejectRead_pit (code : DiagCode) (port : Port) : (s.rejectRead code port).pit = s.pit := rfl
@[simp] theorem State.rejectRead_cmos (code : DiagCode) (port : Port) : (s.rejectRead code port).cmos = s.cmos := rfl
@[simp] theorem State.rejectRead_diag (code : DiagCode) (port : Port) : (s.rejectRead code port).diag = s.diag ++ [⟨code, some port⟩] := rfl
@[simp] theorem State.rejectRead_params (code : DiagCode) (port : Port) : (s.rejectRead code port).params = s.params := rfl
@[simp] theorem State.rejectRead_inp (code : DiagCode) (port : Port) : (s.rejectRead code port).inp = s.inp := rfl
@[simp] theorem State.rejectRead_pending (code : DiagCode) (port : Port) : (s.rejectRead code port).pending = s.pending := rfl
@[simp] theorem State.rejectRead_ret (code : DiagCode) (port : Port) : (s.rejectRead code port).ret = .byte (Config.noValue s.draws) := rfl
@[simp] theorem State.rejectRead_delivered (code : DiagCode) (port : Port) : (s.rejectRead code port).delivered = s.delivered := rfl
@[simp] theorem State.rejectRead_draws (code : DiagCode) (port : Port) : (s.rejectRead code port).draws = s.draws + 1 := rfl

/-! ### State.deliver -/

@[simp] theorem State.deliver_pic (v : Byte) : (s.deliver v).pic = s.pic := rfl
@[simp] theorem State.deliver_pit (v : Byte) : (s.deliver v).pit = s.pit := rfl
@[simp] theorem State.deliver_cmos (v : Byte) : (s.deliver v).cmos = s.cmos := rfl
@[simp] theorem State.deliver_diag (v : Byte) : (s.deliver v).diag = s.diag := rfl
@[simp] theorem State.deliver_params (v : Byte) : (s.deliver v).params = s.params := rfl
@[simp] theorem State.deliver_inp (v : Byte) : (s.deliver v).inp = s.inp := rfl
@[simp] theorem State.deliver_pending (v : Byte) : (s.deliver v).pending = s.pending := rfl
@[simp] theorem State.deliver_ret (v : Byte) : (s.deliver v).ret = s.ret := rfl
@[simp] theorem State.deliver_delivered (v : Byte) : (s.deliver v).delivered = s.delivered ++ [v] := rfl
@[simp] theorem State.deliver_draws (v : Byte) : (s.deliver v).draws = s.draws := rfl

/-! ### State.grant -/

@[simp] theorem State.grant_pic (i : Irq) : (s.grant i).pic = s.pic.grant i := rfl
@[simp] theorem State.grant_pit (i : Irq) : (s.grant i).pit = s.pit := rfl
@[simp] theorem State.grant_cmos (i : Irq) : (s.grant i).cmos = s.cmos := rfl
@[simp] theorem State.grant_diag (i : Irq) : (s.grant i).diag = s.diag := rfl
@[simp] theorem State.grant_params (i : Irq) : (s.grant i).params = s.params := rfl
@[simp] theorem State.grant_inp (i : Irq) : (s.grant i).inp = s.inp := rfl
@[simp] theorem State.grant_pending (i : Irq) : (s.grant i).pending = s.pending := rfl
@[simp] theorem State.grant_ret (i : Irq) : (s.grant i).ret = .vector (some (irqVector s.pic.vbase i)) := rfl
@[simp] theorem State.grant_delivered (i : Irq) : (s.grant i).delivered = s.delivered ++ [irqVector s.pic.vbase i] := rfl
@[simp] theorem State.grant_draws (i : Irq) : (s.grant i).draws = s.draws := rfl

/-! ### State.reconciled -/

@[simp] theorem State.reconciled_pic : (s.reconciled).pic = s.pic := rfl
@[simp] theorem State.reconciled_pit : (s.reconciled).pit = s.pit.reconcile s.inp.mono := rfl
@[simp] theorem State.reconciled_cmos : (s.reconciled).cmos = s.cmos := rfl
@[simp] theorem State.reconciled_diag : (s.reconciled).diag = s.diag := rfl
@[simp] theorem State.reconciled_params : (s.reconciled).params = s.params := rfl
@[simp] theorem State.reconciled_inp : (s.reconciled).inp = s.inp := rfl
@[simp] theorem State.reconciled_pending : (s.reconciled).pending = s.pending := rfl
@[simp] theorem State.reconciled_ret : (s.reconciled).ret = s.ret := rfl
@[simp] theorem State.reconciled_delivered : (s.reconciled).delivered = s.delivered := rfl
@[simp] theorem State.reconciled_draws : (s.reconciled).draws = s.draws := rfl

/-! ### State.onChannel -/

@[simp] theorem State.onChannel_pic (k : PitChan) (f : Channel → Channel) : (s.onChannel k f).pic = s.pic := rfl
@[simp] theorem State.onChannel_pit (k : PitChan) (f : Channel → Channel) : (s.onChannel k f).pit = (s.pit.reconcile s.inp.mono).setChan k (f ((s.pit.reconcile s.inp.mono).chan k)) := rfl
@[simp] theorem State.onChannel_cmos (k : PitChan) (f : Channel → Channel) : (s.onChannel k f).cmos = s.cmos := rfl
@[simp] theorem State.onChannel_diag (k : PitChan) (f : Channel → Channel) : (s.onChannel k f).diag = s.diag := rfl
@[simp] theorem State.onChannel_params (k : PitChan) (f : Channel → Channel) : (s.onChannel k f).params = s.params := rfl
@[simp] theorem State.onChannel_inp (k : PitChan) (f : Channel → Channel) : (s.onChannel k f).inp = s.inp := rfl
@[simp] theorem State.onChannel_pending (k : PitChan) (f : Channel → Channel) : (s.onChannel k f).pending = s.pending := rfl
@[simp] theorem State.onChannel_ret (k : PitChan) (f : Channel → Channel) : (s.onChannel k f).ret = s.ret := rfl
@[simp] theorem State.onChannel_delivered (k : PitChan) (f : Channel → Channel) : (s.onChannel k f).delivered = s.delivered := rfl
@[simp] theorem State.onChannel_draws (k : PitChan) (f : Channel → Channel) : (s.onChannel k f).draws = s.draws := rfl

/-! ### State.readChannel -/

@[simp] theorem State.readChannel_pic (k : PitChan) (f : Channel → Byte × Channel) : (s.readChannel k f).pic = s.pic := rfl
@[simp] theorem State.readChannel_pit (k : PitChan) (f : Channel → Byte × Channel) : (s.readChannel k f).pit = (s.pit.reconcile s.inp.mono).setChan k (f ((s.pit.reconcile s.inp.mono).chan k)).2 := rfl
@[simp] theorem State.readChannel_cmos (k : PitChan) (f : Channel → Byte × Channel) : (s.readChannel k f).cmos = s.cmos := rfl
@[simp] theorem State.readChannel_diag (k : PitChan) (f : Channel → Byte × Channel) : (s.readChannel k f).diag = s.diag := rfl
@[simp] theorem State.readChannel_params (k : PitChan) (f : Channel → Byte × Channel) : (s.readChannel k f).params = s.params := rfl
@[simp] theorem State.readChannel_inp (k : PitChan) (f : Channel → Byte × Channel) : (s.readChannel k f).inp = s.inp := rfl
@[simp] theorem State.readChannel_pending (k : PitChan) (f : Channel → Byte × Channel) : (s.readChannel k f).pending = s.pending := rfl
@[simp] theorem State.readChannel_ret (k : PitChan) (f : Channel → Byte × Channel) : (s.readChannel k f).ret = .byte (f ((s.pit.reconcile s.inp.mono).chan k)).1 := rfl
@[simp] theorem State.readChannel_delivered (k : PitChan) (f : Channel → Byte × Channel) : (s.readChannel k f).delivered = s.delivered := rfl
@[simp] theorem State.readChannel_draws (k : PitChan) (f : Channel → Byte × Channel) : (s.readChannel k f).draws = s.draws := rfl

/-! ### State.rejectControl -/

@[simp] theorem State.rejectControl_pic (code : DiagCode) : (s.rejectControl code).pic = s.pic := rfl
@[simp] theorem State.rejectControl_pit (code : DiagCode) : (s.rejectControl code).pit = s.pit.reconcile s.inp.mono := rfl
@[simp] theorem State.rejectControl_cmos (code : DiagCode) : (s.rejectControl code).cmos = s.cmos := rfl
@[simp] theorem State.rejectControl_diag (code : DiagCode) : (s.rejectControl code).diag = s.diag ++ [⟨code, some 0x43#16⟩] := rfl
@[simp] theorem State.rejectControl_params (code : DiagCode) : (s.rejectControl code).params = s.params := rfl
@[simp] theorem State.rejectControl_inp (code : DiagCode) : (s.rejectControl code).inp = s.inp := rfl
@[simp] theorem State.rejectControl_pending (code : DiagCode) : (s.rejectControl code).pending = s.pending := rfl
@[simp] theorem State.rejectControl_ret (code : DiagCode) : (s.rejectControl code).ret = s.ret := rfl
@[simp] theorem State.rejectControl_delivered (code : DiagCode) : (s.rejectControl code).delivered = s.delivered := rfl
@[simp] theorem State.rejectControl_draws (code : DiagCode) : (s.rejectControl code).draws = s.draws := rfl

/-! ### State.accept -/

@[simp] theorem State.accept_pic (r : Request) (rest : List Request) : (s.accept r rest).pic = s.pic := rfl
@[simp] theorem State.accept_pit (r : Request) (rest : List Request) : (s.accept r rest).pit = s.pit := rfl
@[simp] theorem State.accept_cmos (r : Request) (rest : List Request) : (s.accept r rest).cmos = s.cmos := rfl
@[simp] theorem State.accept_diag (r : Request) (rest : List Request) : (s.accept r rest).diag = s.diag := rfl
@[simp] theorem State.accept_params (r : Request) (rest : List Request) : (s.accept r rest).params = s.params := rfl
@[simp] theorem State.accept_inp (r : Request) (rest : List Request) : (s.accept r rest).inp = r.inp := rfl
@[simp] theorem State.accept_pending (r : Request) (rest : List Request) : (s.accept r rest).pending = rest := rfl
@[simp] theorem State.accept_ret (r : Request) (rest : List Request) : (s.accept r rest).ret = .nothing := rfl
@[simp] theorem State.accept_delivered (r : Request) (rest : List Request) : (s.accept r rest).delivered = s.delivered := rfl
@[simp] theorem State.accept_draws (r : Request) (rest : List Request) : (s.accept r rest).draws = s.draws := rfl

end

/-! ### The PIC's register updates -/

section

variable (p : Pic) (i : Irq)

@[simp] theorem Pic.rotatePast_irr : (p.rotatePast i).irr = p.irr := rfl
@[simp] theorem Pic.rotatePast_isr : (p.rotatePast i).isr = p.isr := rfl
@[simp] theorem Pic.rotatePast_imr : (p.rotatePast i).imr = p.imr := rfl
@[simp] theorem Pic.rotatePast_base : (p.rotatePast i).base = i + 1#3 := rfl
@[simp] theorem Pic.rotatePast_init : (p.rotatePast i).init = p.init := rfl
@[simp] theorem Pic.rotatePast_cascade : (p.rotatePast i).cascade = p.cascade := rfl
@[simp] theorem Pic.rotatePast_icw4 : (p.rotatePast i).icw4 = p.icw4 := rfl
@[simp] theorem Pic.rotatePast_aeoi : (p.rotatePast i).aeoi = p.aeoi := rfl
@[simp] theorem Pic.rotatePast_rot : (p.rotatePast i).rot = p.rot := rfl
@[simp] theorem Pic.rotatePast_readIsr : (p.rotatePast i).readIsr = p.readIsr := rfl
@[simp] theorem Pic.rotatePast_vbase : (p.rotatePast i).vbase = p.vbase := rfl
@[simp] theorem Pic.rotatePast_attached : (p.rotatePast i).attached = p.attached := rfl
@[simp] theorem Pic.request_isr : (p.request i).isr = p.isr := by
  unfold Pic.request; split <;> rfl
@[simp] theorem Pic.request_imr : (p.request i).imr = p.imr := by
  unfold Pic.request; split <;> rfl
@[simp] theorem Pic.request_base : (p.request i).base = p.base := by
  unfold Pic.request; split <;> rfl
@[simp] theorem Pic.request_init : (p.request i).init = p.init := by
  unfold Pic.request; split <;> rfl
@[simp] theorem Pic.request_cascade : (p.request i).cascade = p.cascade := by
  unfold Pic.request; split <;> rfl
@[simp] theorem Pic.request_icw4 : (p.request i).icw4 = p.icw4 := by
  unfold Pic.request; split <;> rfl
@[simp] theorem Pic.request_aeoi : (p.request i).aeoi = p.aeoi := by
  unfold Pic.request; split <;> rfl
@[simp] theorem Pic.request_rot : (p.request i).rot = p.rot := by
  unfold Pic.request; split <;> rfl
@[simp] theorem Pic.request_readIsr : (p.request i).readIsr = p.readIsr := by
  unfold Pic.request; split <;> rfl
@[simp] theorem Pic.request_vbase : (p.request i).vbase = p.vbase := by
  unfold Pic.request; split <;> rfl
@[simp] theorem Pic.request_attached : (p.request i).attached = p.attached := by
  unfold Pic.request; split <;> rfl
@[simp] theorem Pic.grant_imr : (p.grant i).imr = p.imr := by
  unfold Pic.grant; repeat (split <;> try rfl)
@[simp] theorem Pic.grant_init : (p.grant i).init = p.init := by
  unfold Pic.grant; repeat (split <;> try rfl)
@[simp] theorem Pic.grant_cascade : (p.grant i).cascade = p.cascade := by
  unfold Pic.grant; repeat (split <;> try rfl)
@[simp] theorem Pic.grant_icw4 : (p.grant i).icw4 = p.icw4 := by
  unfold Pic.grant; repeat (split <;> try rfl)
@[simp] theorem Pic.grant_aeoi : (p.grant i).aeoi = p.aeoi := by
  unfold Pic.grant; repeat (split <;> try rfl)
@[simp] theorem Pic.grant_rot : (p.grant i).rot = p.rot := by
  unfold Pic.grant; repeat (split <;> try rfl)
@[simp] theorem Pic.grant_readIsr : (p.grant i).readIsr = p.readIsr := by
  unfold Pic.grant; repeat (split <;> try rfl)
@[simp] theorem Pic.grant_vbase : (p.grant i).vbase = p.vbase := by
  unfold Pic.grant; repeat (split <;> try rfl)
@[simp] theorem Pic.grant_attached : (p.grant i).attached = p.attached := by
  unfold Pic.grant; repeat (split <;> try rfl)
@[simp] theorem Pic.grant_irr : (p.grant i).irr = clearIrq p.irr i := by
  unfold Pic.grant; repeat (split <;> try rfl)
@[simp] theorem Pic.clearNs_irr (n : Nesting) : (p.clearNs n).irr = p.irr := by
  unfold Pic.clearNs; repeat (split <;> try rfl)
@[simp] theorem Pic.clearNs_imr (n : Nesting) : (p.clearNs n).imr = p.imr := by
  unfold Pic.clearNs; repeat (split <;> try rfl)
@[simp] theorem Pic.clearNs_base (n : Nesting) : (p.clearNs n).base = p.base := by
  unfold Pic.clearNs; repeat (split <;> try rfl)
@[simp] theorem Pic.clearNs_init (n : Nesting) : (p.clearNs n).init = p.init := by
  unfold Pic.clearNs; repeat (split <;> try rfl)
@[simp] theorem Pic.clearNs_cascade (n : Nesting) : (p.clearNs n).cascade = p.cascade := by
  unfold Pic.clearNs; repeat (split <;> try rfl)
@[simp] theorem Pic.clearNs_icw4 (n : Nesting) : (p.clearNs n).icw4 = p.icw4 := by
  unfold Pic.clearNs; repeat (split <;> try rfl)
@[simp] theorem Pic.clearNs_aeoi (n : Nesting) : (p.clearNs n).aeoi = p.aeoi := by
  unfold Pic.clearNs; repeat (split <;> try rfl)
@[simp] theorem Pic.clearNs_rot (n : Nesting) : (p.clearNs n).rot = p.rot := by
  unfold Pic.clearNs; repeat (split <;> try rfl)
@[simp] theorem Pic.clearNs_readIsr (n : Nesting) : (p.clearNs n).readIsr = p.readIsr := by
  unfold Pic.clearNs; repeat (split <;> try rfl)
@[simp] theorem Pic.clearNs_vbase (n : Nesting) : (p.clearNs n).vbase = p.vbase := by
  unfold Pic.clearNs; repeat (split <;> try rfl)
@[simp] theorem Pic.clearNs_attached (n : Nesting) : (p.clearNs n).attached = p.attached := by
  unfold Pic.clearNs; repeat (split <;> try rfl)
@[simp] theorem Pic.rotatePastTop_irr (e : Option Irq) : (p.rotatePastTop e).irr = p.irr := by
  unfold Pic.rotatePastTop; split <;> rfl
@[simp] theorem Pic.rotatePastTop_isr (e : Option Irq) : (p.rotatePastTop e).isr = p.isr := by
  unfold Pic.rotatePastTop; split <;> rfl
@[simp] theorem Pic.rotatePastTop_imr (e : Option Irq) : (p.rotatePastTop e).imr = p.imr := by
  unfold Pic.rotatePastTop; split <;> rfl
@[simp] theorem Pic.rotatePastTop_init (e : Option Irq) : (p.rotatePastTop e).init = p.init := by
  unfold Pic.rotatePastTop; split <;> rfl
@[simp] theorem Pic.rotatePastTop_cascade (e : Option Irq) : (p.rotatePastTop e).cascade = p.cascade := by
  unfold Pic.rotatePastTop; split <;> rfl
@[simp] theorem Pic.rotatePastTop_icw4 (e : Option Irq) : (p.rotatePastTop e).icw4 = p.icw4 := by
  unfold Pic.rotatePastTop; split <;> rfl
@[simp] theorem Pic.rotatePastTop_aeoi (e : Option Irq) : (p.rotatePastTop e).aeoi = p.aeoi := by
  unfold Pic.rotatePastTop; split <;> rfl
@[simp] theorem Pic.rotatePastTop_rot (e : Option Irq) : (p.rotatePastTop e).rot = p.rot := by
  unfold Pic.rotatePastTop; split <;> rfl
@[simp] theorem Pic.rotatePastTop_readIsr (e : Option Irq) : (p.rotatePastTop e).readIsr = p.readIsr := by
  unfold Pic.rotatePastTop; split <;> rfl
@[simp] theorem Pic.rotatePastTop_vbase (e : Option Irq) : (p.rotatePastTop e).vbase = p.vbase := by
  unfold Pic.rotatePastTop; split <;> rfl
@[simp] theorem Pic.rotatePastTop_attached (e : Option Irq) : (p.rotatePastTop e).attached = p.attached := by
  unfold Pic.rotatePastTop; split <;> rfl

end

/-! ### The PIT's channels -/

section

variable (p : Pit) (k : PitChan) (c : Channel)

@[simp] theorem Pit.setChan_last : (p.setChan k c).last = p.last := by cases k <;> rfl
@[simp] theorem Pit.chan_setChan : (p.setChan k c).chan k = c := by cases k <;> rfl
theorem Pit.chan_setChan_ne (j : PitChan) (h : j ≠ k) : (p.setChan k c).chan j = p.chan j := by
  cases k <;> cases j <;> first | rfl | exact absurd rfl h
@[simp] theorem Pit.setChan_chan : p.setChan k (p.chan k) = p := by cases k <;> rfl

@[simp] theorem Channel.start_reload : (c.start).reload = c.reload := rfl
@[simp] theorem Channel.start_cur : (c.start).cur = eff c.reload := rfl
@[simp] theorem Channel.start_mode : (c.start).mode = c.mode := rfl
@[simp] theorem Channel.start_access : (c.start).access = c.access := rfl
@[simp] theorem Channel.start_running : (c.start).running = true := rfl
@[simp] theorem Channel.start_out : (c.start).out = !(c.mode == .mode0) := rfl
@[simp] theorem Channel.start_latchVal : (c.start).latchVal = c.latchVal := rfl
@[simp] theorem Channel.start_latchLeft : (c.start).latchLeft = c.latchLeft := rfl
@[simp] theorem Channel.start_cursor : (c.start).cursor = c.cursor := rfl
@[simp] theorem Channel.start_edge : (c.start).edge = c.edge := rfl
@[simp] theorem Channel.setMode_reload (m : PitMode) (rw : Access) : (c.setMode m rw).reload = 0#16 := rfl
@[simp] theorem Channel.setMode_cur (m : PitMode) (rw : Access) : (c.setMode m rw).cur = 0 := rfl
@[simp] theorem Channel.setMode_mode (m : PitMode) (rw : Access) : (c.setMode m rw).mode = m := rfl
@[simp] theorem Channel.setMode_access (m : PitMode) (rw : Access) : (c.setMode m rw).access = rw := rfl
@[simp] theorem Channel.setMode_running (m : PitMode) (rw : Access) : (c.setMode m rw).running = false := rfl
@[simp] theorem Channel.setMode_out (m : PitMode) (rw : Access) : (c.setMode m rw).out = true := rfl
@[simp] theorem Channel.setMode_latchVal (m : PitMode) (rw : Access) : (c.setMode m rw).latchVal = c.latchVal := rfl
@[simp] theorem Channel.setMode_latchLeft (m : PitMode) (rw : Access) : (c.setMode m rw).latchLeft = 0 := rfl
@[simp] theorem Channel.setMode_cursor (m : PitMode) (rw : Access) : (c.setMode m rw).cursor = .low := rfl
@[simp] theorem Channel.setMode_edge (m : PitMode) (rw : Access) : (c.setMode m rw).edge = c.edge := rfl

end

/-! ### The CMOS's flags -/

section

variable (c : Cmos)

@[simp] theorem Cmos.clearFlags_index : c.clearFlags.index = c.index := rfl
@[simp] theorem Cmos.clearFlags_binary : c.clearFlags.binary = c.binary := rfl
@[simp] theorem Cmos.clearFlags_h24 : c.clearFlags.h24 = c.h24 := rfl
@[simp] theorem Cmos.clearFlags_pie : c.clearFlags.pie = c.pie := rfl
@[simp] theorem Cmos.clearFlags_aie : c.clearFlags.aie = c.aie := rfl
@[simp] theorem Cmos.clearFlags_uie : c.clearFlags.uie = c.uie := rfl
@[simp] theorem Cmos.clearFlags_pf : c.clearFlags.pf = false := rfl
@[simp] theorem Cmos.clearFlags_af : c.clearFlags.af = false := rfl
@[simp] theorem Cmos.clearFlags_uf : c.clearFlags.uf = false := rfl
@[simp] theorem Cmos.clearFlags_alarmS : c.clearFlags.alarmS = c.alarmS := rfl
@[simp] theorem Cmos.clearFlags_alarmM : c.clearFlags.alarmM = c.alarmM := rfl
@[simp] theorem Cmos.clearFlags_alarmH : c.clearFlags.alarmH = c.alarmH := rfl
@[simp] theorem Cmos.clearFlags_rega : c.clearFlags.rega = c.rega := rfl
@[simp] theorem Cmos.clearFlags_line : c.clearFlags.line = false := rfl
@[simp] theorem Cmos.clearFlags_lastWall : c.clearFlags.lastWall = c.lastWall := rfl
@[simp] theorem Cmos.clearFlags_lastMono : c.clearFlags.lastMono = c.lastMono := rfl
@[simp] theorem Cmos.sample_index (w : Wall) (m : Nat) : (c.sample w m).index = c.index := rfl
@[simp] theorem Cmos.sample_binary (w : Wall) (m : Nat) : (c.sample w m).binary = c.binary := rfl
@[simp] theorem Cmos.sample_h24 (w : Wall) (m : Nat) : (c.sample w m).h24 = c.h24 := rfl
@[simp] theorem Cmos.sample_pie (w : Wall) (m : Nat) : (c.sample w m).pie = c.pie := rfl
@[simp] theorem Cmos.sample_aie (w : Wall) (m : Nat) : (c.sample w m).aie = c.aie := rfl
@[simp] theorem Cmos.sample_uie (w : Wall) (m : Nat) : (c.sample w m).uie = c.uie := rfl
@[simp] theorem Cmos.sample_pf (w : Wall) (m : Nat) : (c.sample w m).pf = (c.pf || c.periodDue m) := rfl
@[simp] theorem Cmos.sample_af (w : Wall) (m : Nat) : (c.sample w m).af = (c.af || (c.updated w && c.alarmMatches w)) := rfl
@[simp] theorem Cmos.sample_uf (w : Wall) (m : Nat) : (c.sample w m).uf = (c.uf || c.updated w) := rfl
@[simp] theorem Cmos.sample_alarmS (w : Wall) (m : Nat) : (c.sample w m).alarmS = c.alarmS := rfl
@[simp] theorem Cmos.sample_alarmM (w : Wall) (m : Nat) : (c.sample w m).alarmM = c.alarmM := rfl
@[simp] theorem Cmos.sample_alarmH (w : Wall) (m : Nat) : (c.sample w m).alarmH = c.alarmH := rfl
@[simp] theorem Cmos.sample_rega (w : Wall) (m : Nat) : (c.sample w m).rega = c.rega := rfl
@[simp] theorem Cmos.sample_line (w : Wall) (m : Nat) : (c.sample w m).line = c.line := rfl
@[simp] theorem Cmos.sample_lastWall (w : Wall) (m : Nat) : (c.sample w m).lastWall = w := rfl
@[simp] theorem Cmos.sample_lastMono (w : Wall) (m : Nat) : (c.sample w m).lastMono = if c.lastMono < m then m else c.lastMono := rfl

end

end Sys2Proof.Machine
end

