-- ==== Sys2Proof/Laws/Ops.lean ====
section
/-!
SUPPORT. One lemma for each shared operation that says once what it can do: bits of the PIC registers, requests, grants
and ends of interrupt, the fold of a channel, reconciliation, and the polls.
-/

namespace Sys2Proof.Machine

/-! ## Bits of the PIC registers -/

theorem getLsbD_irqMask (i j : Irq) : (1#8 <<< i.toNat).getLsbD j.toNat = (j == i) := by
  have hj : j.toNat < 8 := j.isLt
  rw [BitVec.getLsbD_shiftLeft, BitVec.getLsbD_one, Bool.eq_iff_iff]
  simp only [Bool.and_eq_true, decide_eq_true_eq, Bool.not_eq_true', decide_eq_false_iff_not, beq_iff_eq,
    ← BitVec.toNat_inj]
  omega

@[simp] theorem irqBit_setIrq (r : Byte) (i j : Irq) : irqBit (setIrq r i) j = (irqBit r j || j == i) := by
  rw [irqBit, setIrq, BitVec.getLsbD_or, getLsbD_irqMask]; rfl

@[simp] theorem irqBit_clearIrq (r : Byte) (i j : Irq) : irqBit (clearIrq r i) j = (irqBit r j && j != i) := by
  have hj : j.toNat < 8 := j.isLt
  rw [irqBit, clearIrq, BitVec.getLsbD_and, BitVec.getLsbD_not, getLsbD_irqMask]
  simp [irqBit, hj, bne]

@[simp] theorem irqBit_zero (j : Irq) : irqBit 0x00#8 j = false := by simp [irqBit]

@[simp] theorem irqBit_candidates (p : Pic) (j : Irq) :
    irqBit p.candidates j = (irqBit p.irr j && !irqBit p.imr j) := by
  have hj : j.toNat < 8 := j.isLt
  simp [irqBit, Pic.candidates, hj]

/-- A register is known by its eight bits. -/
theorem eq_of_irqBits (r q : Byte) (h : ∀ j : Irq, irqBit r j = irqBit q j) : r = q := by
  apply BitVec.eq_of_getLsbD_eq
  intro k hk
  have hk' := h (BitVec.ofNat 3 k)
  simpa [irqBit, BitVec.toNat_ofNat, Nat.mod_eq_of_lt hk] using hk'

/-! ## Ranks -/

theorem mem_irqLines (i : Irq) : i ∈ irqLines := by revert i; decide

theorem irqLines_eq : irqLines = (List.range 8).map (BitVec.ofNat 3) := by decide

/-- The scan of 41_pic R140 comes to IRQ j after `rank` lines. -/
theorem add_ofNat_rank (base j : Irq) : base + BitVec.ofNat 3 (rank base j) = j := by
  rw [rank, BitVec.ofNat_toNat, BitVec.setWidth_eq, BitVec.add_comm, BitVec.sub_add_cancel]

/-- The winner of a resolution is a pending request of an unmasked line, and it is not held back. -/
theorem Pic.resolve_some (p : Pic) (n : Nesting) (i : Irq) (h : p.resolve n = some i) :
    top p.base p.candidates = some i ∧ p.blocked n i = false ∧ irqBit p.irr i = true ∧ irqBit p.imr i = false := by
  unfold Pic.resolve at h
  split at h
  · cases h
  · next best hb =>
    split at h
    · cases h
    · next hn =>
      cases h
      have hc : irqBit p.candidates i = true := List.find?_some hb
      simp at hc
      exact ⟨hb, by simpa using hn, hc.1, hc.2⟩

/-! ## Requests -/

/-- Everything a request does (41_pic R161). -/
theorem Pic.irqBit_request_irr (p : Pic) (i j : Irq) :
    irqBit (p.request i).irr j = (irqBit p.irr j || (j == i && !irqBit p.imr i)) := by
  unfold Pic.request
  split <;> simp_all

/-- Everything `push_irq` does (41_pic R161). -/
theorem State.pushIrq_cases (s : State) (n : Nat) :
    (8 ≤ n ∧ s.pushIrq n = s.raise .irqRange none) ∨
    (n < 8 ∧ s.pushIrq n = { s with pic := s.pic.request (BitVec.ofNat 3 n) }) := by
  unfold State.pushIrq
  split
  · exact .inl ⟨‹_›, rfl⟩
  · exact .inr ⟨by omega, rfl⟩

/-- `push_irq` of a line's own number is the line's request. -/
theorem State.pushIrq_line (s : State) (i : Irq) : s.pushIrq i.toNat = { s with pic := s.pic.request i } := by
  have hi : i.toNat < 8 := i.isLt
  unfold State.pushIrq
  rw [if_neg (by omega)]
  simp

/-! ## Grants -/

/-- What a grant makes of ISR (41_pic R164). -/
theorem Pic.irqBit_grant_isr (p : Pic) (i j : Irq) :
    irqBit (p.grant i).isr j = (irqBit p.isr j || (!p.aeoi && j == i)) := by
  unfold Pic.grant
  split
  · split <;> simp_all
  · simp_all

/-- What a grant makes of the priority base (41_pic R164). -/
theorem Pic.grant_base (p : Pic) (i : Irq) :
    (p.grant i).base = if p.aeoi = true ∧ p.rot = true then i + 1#3 else p.base := by
  unfold Pic.grant
  split
  · split <;> simp_all
  · simp_all

/-! ## Counting -/

/-- Everything the fold of a channel can change (42_pit R185). -/
theorem Channel.fold_eq (c : Channel) (n : Nat) :
    c.fold n = { c with cur := (c.fold n).cur, out := (c.fold n).out, running := (c.fold n).running,
                        edge := (c.fold n).edge } := by
  unfold Channel.fold
  split
  · dsimp only
    split
    · rfl
    · split <;> rfl
  · rfl

@[simp] theorem Channel.fold_ctx (c : Channel) (n : Nat) : (c.fold n).ctx = c.ctx := by
  rw [Channel.fold_eq]; rfl

/-- Both ends of a reconciliation (42_pit R183). -/
theorem Pit.reconcile_cases (p : Pit) (now : Nat) :
    (now ≤ p.last ∧ p.reconcile now = p) ∨
    (p.last < now ∧ p.reconcile now =
      ⟨p.ch0.fold (ticksAt now - ticksAt p.last), p.ch1.fold (ticksAt now - ticksAt p.last),
        p.ch2.fold (ticksAt now - ticksAt p.last), now⟩) := by
  unfold Pit.reconcile
  split
  · exact .inl ⟨‹_›, rfl⟩
  · exact .inr ⟨by omega, rfl⟩

/-- A reconciliation does not change what the decoder reads (30_encoding R91). -/
@[simp] theorem Pit.reconcile_ctx (p : Pit) (now : Nat) (k : PitChan) :
    ((p.reconcile now).chan k).ctx = (p.chan k).ctx := by
  obtain ⟨-, h⟩ | ⟨-, h⟩ := p.reconcile_cases now <;> rw [h]
  cases k <;> simp [Pit.chan]

theorem Pit.last_le_reconcile (p : Pit) (now : Nat) : p.last ≤ (p.reconcile now).last := by
  obtain ⟨-, h⟩ | ⟨hl, h⟩ := p.reconcile_cases now <;> rw [h]
  exact hl.le

/-- A second reconciliation at the same time does nothing (42_pit R183). -/
@[simp] theorem Pit.reconcile_again (p : Pit) (now : Nat) : (p.reconcile now).reconcile now = p.reconcile now := by
  obtain ⟨hl, h⟩ | ⟨hl, h⟩ := p.reconcile_cases now
  · rw [h, h]
  · rw [h]
    simp [Pit.reconcile]

@[simp] theorem Pit.poll_last (p : Pit) (now : Nat) : (p.poll now).2.last = (p.reconcile now).last := rfl

/-- A second poll at the same time finds the edge latch clear and changes nothing (41_pic R165). -/
theorem Pit.poll_again (p : Pit) (now : Nat) : (p.poll now).2.poll now = (false, (p.poll now).2) := by
  have hl : now ≤ (p.poll now).2.last := by
    rw [Pit.poll_last]
    obtain ⟨hl, h⟩ | ⟨-, h⟩ := p.reconcile_cases now <;> rw [h]
    exact hl
  have hr : (p.poll now).2.reconcile now = (p.poll now).2 := by rw [Pit.reconcile, if_pos hl]
  rw [Pit.poll, hr]
  rfl

/-- After a sample no source is due at the same times (43_cmos_rtc R261, R263). -/
@[simp] theorem Cmos.updated_sample (c : Cmos) (w : Wall) (m : Nat) : (c.sample w m).updated w = false := by
  simp [Cmos.updated, Cmos.sample]

@[simp] theorem Cmos.periodDue_sample (c : Cmos) (w : Wall) (m : Nat) : (c.sample w m).periodDue m = false := by
  have hm : ¬ (c.sample w m).lastMono < m := by
    dsimp only [Cmos.sample]
    split <;> omega
  rw [Cmos.periodDue, decide_eq_false hm, Bool.and_false, Bool.false_and]

/-- A second poll at the same times finds the line already high, if it is, and changes nothing (43_cmos_rtc R264). -/
theorem Cmos.poll_again (c : Cmos) (w : Wall) (m : Nat) : (c.poll w m).2.poll w m = (false, (c.poll w m).2) := by
  have hs : (c.poll w m).2.sample w m = (c.poll w m).2 := by
    have hu : (c.poll w m).2.updated w = false := c.updated_sample w m
    have hp : (c.poll w m).2.periodDue m = false := c.periodDue_sample w m
    have hl : ¬ (c.poll w m).2.lastMono < m := by
      dsimp only [Cmos.poll, Cmos.sample]
      split <;> omega
    rw [Cmos.sample, hu, hp, if_neg hl]
    simp [Cmos.poll, Cmos.sample]
  have hi : (c.poll w m).2.irqf = (c.poll w m).2.line := rfl
  rw [Cmos.poll, hs, hi, Bool.and_not_self]

/-! ## Polls -/

/-- Everything the poll of a line's device can do (41_pic R162). -/
theorem State.pollDevice_cases (s : State) (i : Irq) :
    (deviceAt s.pic.attached i = none ∧ s.pollDevice i = (false, s)) ∨
    (deviceAt s.pic.attached i = some .pit ∧
      s.pollDevice i = ((s.pit.poll s.inp.mono).1, { s with pit := (s.pit.poll s.inp.mono).2 })) ∨
    (deviceAt s.pic.attached i = some .cmos ∧
      s.pollDevice i = ((s.cmos.poll s.inp.wall s.inp.mono).1,
        { s with cmos := (s.cmos.poll s.inp.wall s.inp.mono).2 })) ∨
    (∃ d, deviceAt s.pic.attached i = some (.ext d) ∧ s.pollDevice i = (irqBit s.inp.ext i, s)) := by
  unfold State.pollDevice
  split
  · exact .inl ⟨‹_›, rfl⟩
  · exact .inr (.inl ⟨‹_›, rfl⟩)
  · exact .inr (.inr (.inl ⟨‹_›, rfl⟩))
  · next d h => exact .inr (.inr (.inr ⟨d, h, rfl⟩))

/-- The poll of a line: the device's state, and the line's request if the device asks (41_pic R162). -/
theorem State.pollLine_eq (s : State) (i : Irq) :
    s.pollLine i = { s with
      pit := (s.pollDevice i).2.pit
      cmos := (s.pollDevice i).2.cmos
      pic := if (s.pollDevice i).1 = true then s.pic.request i else s.pic } := by
  unfold State.pollLine
  rw [State.pushIrq_line]
  obtain ⟨-, h⟩ | ⟨-, h⟩ | ⟨-, h⟩ | ⟨d, -, h⟩ := s.pollDevice_cases i <;> rw [h] <;> dsimp only <;> split <;> rfl

/-- A property that every line's poll keeps is kept by phase 1 of the PIC's poll. -/
theorem State.pollLines_keeps (P : State → Prop) (h : ∀ s i, P s → P (s.pollLine i)) (s : State) (hs : P s) :
    P s.pollLines := by
  have hl : ∀ (l : List Irq) (s : State), P s → P (l.foldl State.pollLine s) := by
    intro l
    induction l with
    | nil => exact fun _ hs => hs
    | cons i l ih => exact fun s hs => ih _ (h s i hs)
  exact hl irqLines s hs

/-- What phase 1 of the PIC's poll can write (41_pic R162). -/
theorem State.pollLines_writes (s : State) :
    ∃ (pit : Pit) (cmos : Cmos) (irr : Byte),
      s.pollLines = { s with pit := pit, cmos := cmos, pic := { s.pic with irr := irr } } := by
  have base : ∃ (pit : Pit) (cmos : Cmos) (irr : Byte),
      s = { s with pit := pit, cmos := cmos, pic := { s.pic with irr := irr } } := ⟨s.pit, s.cmos, s.pic.irr, rfl⟩
  have step : ∀ (t : State) (i : Irq),
      (∃ (pit : Pit) (cmos : Cmos) (irr : Byte),
        t = { s with pit := pit, cmos := cmos, pic := { s.pic with irr := irr } }) →
      ∃ (pit : Pit) (cmos : Cmos) (irr : Byte),
        t.pollLine i = { s with pit := pit, cmos := cmos, pic := { s.pic with irr := irr } } := by
    rintro t i ⟨pit, cmos, irr, rfl⟩
    rw [State.pollLine_eq]
    split
    · unfold Pic.request
      split
      · exact ⟨_, _, _, rfl⟩
      · exact ⟨_, _, _, rfl⟩
    · exact ⟨_, _, _, rfl⟩
  exact State.pollLines_keeps
    (fun t => ∃ (pit : Pit) (cmos : Cmos) (irr : Byte),
      t = { s with pit := pit, cmos := cmos, pic := { s.pic with irr := irr } }) step s base

/-- What phase 1 of the PIC's poll leaves as it is (41_pic R162). -/
theorem State.pollLines_eq (s : State) :
    s.pollLines =
      { s with
        pit := s.pollLines.pit
        cmos := s.pollLines.cmos
        pic := { s.pic with irr := s.pollLines.pic.irr } } := by
  obtain ⟨pit, cmos, irr, h⟩ := s.pollLines_writes
  rw [h]

/-! ## The outcome of one step -/

/-- Everything `poll()` can do, when its phases answer a next state (41_pic R162 to R164). -/
theorem performPoll_eq (s : State) :
    performPoll s =
      match s.pollLines.pic.resolve s.pollLines.params.nesting with
      | none => .next { s.pollLines with ret := .vector none }
      | some i => .next (State.grant { s.pollLines with ret := .winner (some i) } i) := by
  simp only [performPoll, exec, execHostPollAttachedDevices, execHostPollResolve, andThen]
  generalize s.pollLines = u
  cases h : u.pic.resolve u.params.nesting <;> simp [finishPoll, exec, execHostPollGrant]

/-- Everything a port access can do (20_memory R72, 40_port_contract R130, R131). -/
theorem performAccess_cases (a : PortAccess) (s : State) :
    performAccess a s = .next s ∨
    (∃ code, (code = .badSize ∨ code = .unmapped) ∧ performAccess a s = .next (s.rejectAccess code a)) ∨
    (∃ i, decode s.ctx (accessWord a) = .ok i ∧ performAccess a s = exec i s) := by
  unfold performAccess
  split
  · split
    · unfold performByte
      split
      · next i h => exact .inr (.inr ⟨i, h, rfl⟩)
      · exact .inr (.inl ⟨.unmapped, .inr rfl, rfl⟩)
    · exact .inr (.inl ⟨.badSize, .inl rfl, rfl⟩)
  · exact .inl rfl

/-- Everything a rejected access writes (40_port_contract R130, R131). -/
theorem State.rejectAccess_eq (s : State) (code : DiagCode) (a : PortAccess) :
    s.rejectAccess code a = { s with
      diag := s.diag ++ [⟨code, some a.port⟩]
      ret := if a.dir = .read then .byte (Config.noValue s.draws) else s.ret
      draws := if a.dir = .read then s.draws + 1 else s.draws } := by
  unfold State.rejectAccess
  split <;> simp_all [State.rejectRead, State.replyNoValue, State.raise]

/-- Everything a step can do: nothing is issued; or the operation at the head of the list is performed, which is an
access that is not the block's, a rejected access, one decoded instruction, a poll, or one of the two other calls. -/
theorem step_cases (s : State) :
    (s.pending = [] ∧ stepState s = .next s) ∨
    ∃ r rest, s.pending = r :: rest ∧
      (stepState s = .next (s.accept r rest) ∨
       (∃ a code, r.call = .port a ∧ (code = .badSize ∨ code = .unmapped) ∧
          stepState s = .next ((s.accept r rest).rejectAccess code a)) ∨
       (∃ a i, r.call = .port a ∧ decode (s.accept r rest).ctx (accessWord a) = .ok i ∧
          stepState s = exec i (s.accept r rest)) ∨
       (r.call = .poll ∧ stepState s = performPoll (s.accept r rest)) ∨
       (∃ n, r.call = .pushIrq n ∧ stepState s = exec (.hostPushIrq n) (s.accept r rest)) ∨
       (∃ n d, r.call = .attach n d ∧ stepState s = exec (.hostAttach n d) (s.accept r rest))) := by
  cases hp : s.pending with
  | nil => exact .inl ⟨rfl, by simp [stepState, hp]⟩
  | cons r rest =>
    refine .inr ⟨r, rest, rfl, ?_⟩
    have hs : stepState s = perform r.call (s.accept r rest) := by simp [stepState, hp]
    rw [hs]
    cases hc : r.call with
    | port a =>
      obtain h | ⟨code, hcode, h⟩ | ⟨i, hi, h⟩ := performAccess_cases a (s.accept r rest)
      · exact .inl h
      · exact .inr (.inl ⟨a, code, rfl, hcode, h⟩)
      · exact .inr (.inr (.inl ⟨a, i, rfl, hi, h⟩))
    | poll => exact .inr (.inr (.inr (.inl ⟨rfl, rfl⟩)))
    | pushIrq n => exact .inr (.inr (.inr (.inr (.inl ⟨n, rfl, rfl⟩))))
    | attach n d => exact .inr (.inr (.inr (.inr (.inr ⟨n, d, rfl, rfl⟩))))

end Sys2Proof.Machine
end

