-- ==== Sys2Proof/Laws/PerInstr.lean ====
section
/-!
SUPPORT. What is said of every instruction as syntax: its encoding has the fixed bits of its row of
spec/opcode_table.json, one lemma per constructor.
-/

namespace Sys2Proof.Laws.TableRow

open Sys2Proof

/-- The columns `match` and `mask` of an instruction's row of spec/opcode_table.json; none for a host call. -/
def row : Instr → Option (AccessWord × AccessWord)
  | .picIcw1 _ _ _ _ _ => some (0x1002010#25, 0x1FFFF10#25)
  | .picOcw2ClearRotateAeoi _ => some (0x1002000#25, 0x1FFFFF8#25)
  | .picOcw2NonspecificEoi _ => some (0x1002020#25, 0x1FFFFF8#25)
  | .picOcw2Nop _ => some (0x1002040#25, 0x1FFFFF8#25)
  | .picOcw2SpecificEoi _ => some (0x1002060#25, 0x1FFFFF8#25)
  | .picOcw2SetRotateAeoi _ => some (0x1002080#25, 0x1FFFFF8#25)
  | .picOcw2RotateNonspecificEoi _ => some (0x10020A0#25, 0x1FFFFF8#25)
  | .picOcw2SetPriority _ => some (0x10020C0#25, 0x1FFFFF8#25)
  | .picOcw2RotateSpecificEoi _ => some (0x10020E0#25, 0x1FFFFF8#25)
  | .picOcw3 _ _ _ _ _ _ => some (0x1002008#25, 0x1FFFF18#25)
  | .picIcw2 _ => some (0x1002100#25, 0x1FFFF00#25)
  | .picIcw3 _ => some (0x1002100#25, 0x1FFFF00#25)
  | .picIcw4 _ _ _ _ _ _ => some (0x1002100#25, 0x1FFFF00#25)
  | .picOcw1 _ => some (0x1002100#25, 0x1FFFF00#25)
  | .picReadStatus => some (0x0002000#25, 0x1FFFF00#25)
  | .picReadImr => some (0x0002100#25, 0x1FFFF00#25)
  | .pitCtlBadChannel _ => some (0x10043C0#25, 0x1FFFFC0#25)
  | .pitCtlLatchCh0 _ => some (0x1004300#25, 0x1FFFFF0#25)
  | .pitCtlLatchCh1 _ => some (0x1004340#25, 0x1FFFFF0#25)
  | .pitCtlLatchCh2 _ => some (0x1004380#25, 0x1FFFFF0#25)
  | .pitCtlBcd _ _ _ => some (0x1004301#25, 0x1FFFF01#25)
  | .pitCtlSetMode0 _ _ => some (0x1004300#25, 0x1FFFF0F#25)
  | .pitCtlSetMode2 _ _ => some (0x1004304#25, 0x1FFFF0F#25)
  | .pitCtlSetMode3 _ _ => some (0x1004306#25, 0x1FFFF0F#25)
  | .pitCtlBadMode _ _ _ => some (0x1004300#25, 0x1FFFF00#25)
  | .pitCh0WriteLo _ => some (0x1004000#25, 0x1FFFF00#25)
  | .pitCh0WriteHi _ => some (0x1004000#25, 0x1FFFF00#25)
  | .pitCh0WriteLohiLow _ => some (0x1004000#25, 0x1FFFF00#25)
  | .pitCh0WriteLohiHigh _ => some (0x1004000#25, 0x1FFFF00#25)
  | .pitCh0ReadLatched => some (0x0004000#25, 0x1FFFF00#25)
  | .pitCh0ReadLive => some (0x0004000#25, 0x1FFFF00#25)
  | .pitCh1WriteLo _ => some (0x1004100#25, 0x1FFFF00#25)
  | .pitCh1WriteHi _ => some (0x1004100#25, 0x1FFFF00#25)
  | .pitCh1WriteLohiLow _ => some (0x1004100#25, 0x1FFFF00#25)
  | .pitCh1WriteLohiHigh _ => some (0x1004100#25, 0x1FFFF00#25)
  | .pitCh1ReadLatched => some (0x0004100#25, 0x1FFFF00#25)
  | .pitCh1ReadLive => some (0x0004100#25, 0x1FFFF00#25)
  | .pitCh2WriteLo _ => some (0x1004200#25, 0x1FFFF00#25)
  | .pitCh2WriteHi _ => some (0x1004200#25, 0x1FFFF00#25)
  | .pitCh2WriteLohiLow _ => some (0x1004200#25, 0x1FFFF00#25)
  | .pitCh2WriteLohiHigh _ => some (0x1004200#25, 0x1FFFF00#25)
  | .pitCh2ReadLatched => some (0x0004200#25, 0x1FFFF00#25)
  | .pitCh2ReadLive => some (0x0004200#25, 0x1FFFF00#25)
  | .pitCtlRead => some (0x0004300#25, 0x1FFFF00#25)
  | .cmosIndexWrite _ _ => some (0x1007000#25, 0x1FFFF00#25)
  | .cmosIndexRead => some (0x0007000#25, 0x1FFFF00#25)
  | .cmosReadSeconds => some (0x0007100#25, 0x1FFFF00#25)
  | .cmosReadAlarmSeconds => some (0x0007100#25, 0x1FFFF00#25)
  | .cmosReadMinutes => some (0x0007100#25, 0x1FFFF00#25)
  | .cmosReadAlarmMinutes => some (0x0007100#25, 0x1FFFF00#25)
  | .cmosReadHours => some (0x0007100#25, 0x1FFFF00#25)
  | .cmosReadAlarmHours => some (0x0007100#25, 0x1FFFF00#25)
  | .cmosReadWeekday => some (0x0007100#25, 0x1FFFF00#25)
  | .cmosReadDay => some (0x0007100#25, 0x1FFFF00#25)
  | .cmosReadMonth => some (0x0007100#25, 0x1FFFF00#25)
  | .cmosReadYear => some (0x0007100#25, 0x1FFFF00#25)
  | .cmosReadStatusA => some (0x0007100#25, 0x1FFFF00#25)
  | .cmosReadStatusB => some (0x0007100#25, 0x1FFFF00#25)
  | .cmosReadStatusC => some (0x0007100#25, 0x1FFFF00#25)
  | .cmosReadStatusD => some (0x0007100#25, 0x1FFFF00#25)
  | .cmosReadCentury => some (0x0007100#25, 0x1FFFF00#25)
  | .cmosReadFixed => some (0x0007100#25, 0x1FFFF00#25)
  | .cmosWriteAlarmSeconds _ => some (0x1007100#25, 0x1FFFF00#25)
  | .cmosWriteAlarmMinutes _ => some (0x1007100#25, 0x1FFFF00#25)
  | .cmosWriteAlarmHours _ => some (0x1007100#25, 0x1FFFF00#25)
  | .cmosWriteStatusA _ _ => some (0x1007100#25, 0x1FFFF00#25)
  | .cmosWriteStatusB _ _ _ _ _ _ _ _ => some (0x1007100#25, 0x1FFFF00#25)
  | .cmosWriteStatusCd _ => some (0x1007100#25, 0x1FFFF00#25)
  | .cmosWriteOther _ => some (0x1007100#25, 0x1FFFF00#25)
  | .hostPollAttachedDevices => none
  | .hostPollResolve => none
  | .hostPollGrant _ => none
  | .hostPushIrq _ => none
  | .hostAttach _ _ => none
  | .hostPitPollIrq => none
  | .hostCmosPollIrq => none

/-- The access word of an instruction has the fixed bits of its row, and a host call has no word. -/
def Statement (i : Instr) : Prop :=
  (encode i).map (fun w => w &&& (row i).elim 0#25 Prod.snd) = (row i).map Prod.fst

/-- The bits above the byte of a written word are its direction and port. -/
theorem high_of_writeWord (p : Port) (v : Byte) :
    (some (writeWord p v)).map (fun w => w &&& 0x1FFFF00#25) = some (writeWord p 0x00#8) := by
  rw [Option.map_some, writeWord_and_high]

theorem picIcw1 (a7 : BitVec 3) (ltim : Bool) (adi : Bool) (sngl : Bool) (ic4 : Bool) :
    Statement (.picIcw1 a7 ltim adi sngl ic4) := by
  revert a7 ltim adi sngl ic4; unfold Statement; decide

theorem picOcw2ClearRotateAeoi (l : BitVec 3) : Statement (.picOcw2ClearRotateAeoi l) := by
  revert l; unfold Statement; decide

theorem picOcw2NonspecificEoi (l : BitVec 3) : Statement (.picOcw2NonspecificEoi l) := by
  revert l; unfold Statement; decide

theorem picOcw2Nop (l : BitVec 3) : Statement (.picOcw2Nop l) := by
  revert l; unfold Statement; decide

theorem picOcw2SpecificEoi (l : Irq) : Statement (.picOcw2SpecificEoi l) := by
  revert l; unfold Statement; decide

theorem picOcw2SetRotateAeoi (l : BitVec 3) : Statement (.picOcw2SetRotateAeoi l) := by
  revert l; unfold Statement; decide

theorem picOcw2RotateNonspecificEoi (l : BitVec 3) : Statement (.picOcw2RotateNonspecificEoi l) := by
  revert l; unfold Statement; decide

theorem picOcw2SetPriority (l : Irq) : Statement (.picOcw2SetPriority l) := by
  revert l; unfold Statement; decide

theorem picOcw2RotateSpecificEoi (l : Irq) : Statement (.picOcw2RotateSpecificEoi l) := by
  revert l; unfold Statement; decide

theorem picOcw3 (b7 : Bool) (esmm : Bool) (smm : Bool) (p : Bool) (rr : Bool) (ris : Bool) :
    Statement (.picOcw3 b7 esmm smm p rr ris) := by
  revert b7 esmm smm p rr ris; unfold Statement; decide

theorem picIcw2 (v : Byte) : Statement (.picIcw2 v) := high_of_writeWord _ _

theorem picIcw3 (v : Byte) : Statement (.picIcw3 v) := high_of_writeWord _ _

theorem picIcw4 (b75 : BitVec 3) (sfnm : Bool) (buf : Bool) (ms : Bool) (aeoi : Bool) (upm : Bool) :
    Statement (.picIcw4 b75 sfnm buf ms aeoi upm) := high_of_writeWord _ _

theorem picOcw1 (v : Byte) : Statement (.picOcw1 v) := high_of_writeWord _ _

theorem picReadStatus : Statement (.picReadStatus) := rfl

theorem picReadImr : Statement (.picReadImr) := rfl

theorem pitCtlBadChannel (low : BitVec 6) : Statement (.pitCtlBadChannel low) := by
  revert low; unfold Statement; decide

theorem pitCtlLatchCh0 (low : BitVec 4) : Statement (.pitCtlLatchCh0 low) := by
  revert low; unfold Statement; decide

theorem pitCtlLatchCh1 (low : BitVec 4) : Statement (.pitCtlLatchCh1 low) := by
  revert low; unfold Statement; decide

theorem pitCtlLatchCh2 (low : BitVec 4) : Statement (.pitCtlLatchCh2 low) := by
  revert low; unfold Statement; decide

theorem pitCtlBcd (ch : PitChan) (rw : Access) (m : BitVec 3) : Statement (.pitCtlBcd ch rw m) := by
  cases ch <;> cases rw <;> revert m <;> unfold Statement <;> decide

theorem pitCtlSetMode0 (ch : PitChan) (rw : Access) : Statement (.pitCtlSetMode0 ch rw) := by
  cases ch <;> cases rw <;> unfold Statement <;> decide

theorem pitCtlSetMode2 (ch : PitChan) (rw : Access) : Statement (.pitCtlSetMode2 ch rw) := by
  cases ch <;> cases rw <;> unfold Statement <;> decide

theorem pitCtlSetMode3 (ch : PitChan) (rw : Access) : Statement (.pitCtlSetMode3 ch rw) := by
  cases ch <;> cases rw <;> unfold Statement <;> decide

theorem pitCtlBadMode (ch : PitChan) (rw : Access) (m : BitVec 3) :
    Statement (.pitCtlBadMode ch rw m) := high_of_writeWord _ _

theorem pitCh0WriteLo (v : Byte) : Statement (.pitCh0WriteLo v) := high_of_writeWord _ _

theorem pitCh0WriteHi (v : Byte) : Statement (.pitCh0WriteHi v) := high_of_writeWord _ _

theorem pitCh0WriteLohiLow (v : Byte) : Statement (.pitCh0WriteLohiLow v) := high_of_writeWord _ _

theorem pitCh0WriteLohiHigh (v : Byte) : Statement (.pitCh0WriteLohiHigh v) := high_of_writeWord _ _

theorem pitCh0ReadLatched : Statement (.pitCh0ReadLatched) := rfl

theorem pitCh0ReadLive : Statement (.pitCh0ReadLive) := rfl

theorem pitCh1WriteLo (v : Byte) : Statement (.pitCh1WriteLo v) := high_of_writeWord _ _

theorem pitCh1WriteHi (v : Byte) : Statement (.pitCh1WriteHi v) := high_of_writeWord _ _

theorem pitCh1WriteLohiLow (v : Byte) : Statement (.pitCh1WriteLohiLow v) := high_of_writeWord _ _

theorem pitCh1WriteLohiHigh (v : Byte) : Statement (.pitCh1WriteLohiHigh v) := high_of_writeWord _ _

theorem pitCh1ReadLatched : Statement (.pitCh1ReadLatched) := rfl

theorem pitCh1ReadLive : Statement (.pitCh1ReadLive) := rfl

theorem pitCh2WriteLo (v : Byte) : Statement (.pitCh2WriteLo v) := high_of_writeWord _ _

theorem pitCh2WriteHi (v : Byte) : Statement (.pitCh2WriteHi v) := high_of_writeWord _ _

theorem pitCh2WriteLohiLow (v : Byte) : Statement (.pitCh2WriteLohiLow v) := high_of_writeWord _ _

theorem pitCh2WriteLohiHigh (v : Byte) : Statement (.pitCh2WriteLohiHigh v) := high_of_writeWord _ _

theorem pitCh2ReadLatched : Statement (.pitCh2ReadLatched) := rfl

theorem pitCh2ReadLive : Statement (.pitCh2ReadLive) := rfl

theorem pitCtlRead : Statement (.pitCtlRead) := rfl

theorem cmosIndexWrite (b7 : Bool) (index : BitVec 7) : Statement (.cmosIndexWrite b7 index) := high_of_writeWord _ _

theorem cmosIndexRead : Statement (.cmosIndexRead) := rfl

theorem cmosReadSeconds : Statement (.cmosReadSeconds) := rfl

theorem cmosReadAlarmSeconds : Statement (.cmosReadAlarmSeconds) := rfl

theorem cmosReadMinutes : Statement (.cmosReadMinutes) := rfl

theorem cmosReadAlarmMinutes : Statement (.cmosReadAlarmMinutes) := rfl

theorem cmosReadHours : Statement (.cmosReadHours) := rfl

theorem cmosReadAlarmHours : Statement (.cmosReadAlarmHours) := rfl

theorem cmosReadWeekday : Statement (.cmosReadWeekday) := rfl

theorem cmosReadDay : Statement (.cmosReadDay) := rfl

theorem cmosReadMonth : Statement (.cmosReadMonth) := rfl

theorem cmosReadYear : Statement (.cmosReadYear) := rfl

theorem cmosReadStatusA : Statement (.cmosReadStatusA) := rfl

theorem cmosReadStatusB : Statement (.cmosReadStatusB) := rfl

theorem cmosReadStatusC : Statement (.cmosReadStatusC) := rfl

theorem cmosReadStatusD : Statement (.cmosReadStatusD) := rfl

theorem cmosReadCentury : Statement (.cmosReadCentury) := rfl

theorem cmosReadFixed : Statement (.cmosReadFixed) := rfl

theorem cmosWriteAlarmSeconds (v : Byte) : Statement (.cmosWriteAlarmSeconds v) := high_of_writeWord _ _

theorem cmosWriteAlarmMinutes (v : Byte) : Statement (.cmosWriteAlarmMinutes v) := high_of_writeWord _ _

theorem cmosWriteAlarmHours (v : Byte) : Statement (.cmosWriteAlarmHours v) := high_of_writeWord _ _

theorem cmosWriteStatusA (uip : Bool) (rega : BitVec 7) :
    Statement (.cmosWriteStatusA uip rega) := high_of_writeWord _ _

theorem cmosWriteStatusB (set : Bool) (pie : Bool) (aie : Bool) (uie : Bool) (sqwe : Bool) (dm : Bool) (h24 : Bool) (dse : Bool) :
    Statement (.cmosWriteStatusB set pie aie uie sqwe dm h24 dse) := high_of_writeWord _ _

theorem cmosWriteStatusCd (v : Byte) : Statement (.cmosWriteStatusCd v) := high_of_writeWord _ _

theorem cmosWriteOther (v : Byte) : Statement (.cmosWriteOther v) := high_of_writeWord _ _

theorem hostPollAttachedDevices : Statement (.hostPollAttachedDevices) := rfl

theorem hostPollResolve : Statement (.hostPollResolve) := rfl

theorem hostPollGrant (i : Irq) : Statement (.hostPollGrant i) := rfl

theorem hostPushIrq (n : Nat) : Statement (.hostPushIrq n) := rfl

theorem hostAttach (n : Nat) (dev : Device) : Statement (.hostAttach n dev) := rfl

theorem hostPitPollIrq : Statement (.hostPitPollIrq) := rfl

theorem hostCmosPollIrq : Statement (.hostCmosPollIrq) := rfl

end Sys2Proof.Laws.TableRow
end

