-- ==== Sys2Proof/Tests/Slice0.lean ====
section
/-!
SUPPORT. The model's own tests: what WellFormed refuses, the decoding of every instruction from words written out from
spec/30_encoding, one step of the vectors of spec/95_test_vectors, and for every statement with hypotheses a state that
meets them.
-/

namespace Sys2Proof.Tests

open Sys2Proof Sys2Proof.Machine

/-! ## WellFormed refuses -/

/-- Mode code 2 is accepted by 30_encoding R104, so no `pit.ctl.bad_mode` carries it. -/
theorem test_wf_refuses_goodMode : (Instr.pitCtlBadMode .ch0 .lohi 0b010#3).wf = false := by decide

/-- Codes 0 and 3 likewise; the five rejected codes are well formed. -/
theorem test_wf_badModes : ((List.range 8).map fun n => (Instr.pitCtlBadMode .ch0 .lo (BitVec.ofNat 3 n)).wf) =
    [false, true, false, false, true, true, true, true] := by decide

/-- One field of 43_cmos_rtc R235 out of its range at a time. -/
theorem test_wall_refuses : [{ defaultWall with year := 10000 }, { defaultWall with month := 0 },
    { defaultWall with month := 13 }, { defaultWall with day := 0 }, { defaultWall with day := 32 },
    { defaultWall with wday := 7 }, { defaultWall with hour := 24 }, { defaultWall with min := 60 },
    { defaultWall with sec := 60 }].all (fun w => !w.wf) = true := by decide

theorem test_wall_default_wf : defaultWall.wf = true := by decide

/-- Indices out of order; a listed cell that equals an unlisted one; an index with a rule of its own. -/
theorem test_rom_refuses : [[(0x20, 1#8), (0x10, 1#8)], [(0x10, 1#8), (0x10, 2#8)], [(0x10, 0#8)], [(0x32, 1#8)],
    [(0x0D, 1#8)], [(0x80, 1#8)]].all (fun r => !Rom.wf r) = true := by decide

/-- The boundary indices of 43_cmos_rtc R251. -/
theorem test_rom_accepts : Rom.wf [(0x0E, 1#8), (0x31, 1#8), (0x33, 1#8), (0x7F, 1#8)] = true := by decide

/-- Line 0 without the PIT; bit 7 of `CMOS_STATUS_A_RESET`; an ill-formed table. -/
theorem test_params_refuses : [{ Params.default with irqMap := #v[none, none, none, none, none, none, none, none] },
    { Params.default with statusAReset := 0xA6#8 }, { Params.default with cmosRom := [(0x00, 1#8)] }].all
      (fun p => !p.wf) = true := by decide

theorem test_params_default_wf : Params.default.wf = true := by decide

/-! ## Decoding -/

/-- What the decoder reads from a word, if it does not reject it. -/
def read? (c : Ctx) (w : AccessWord) : Option Instr := (decode c w).toOption

/-- The context of reset with the PIC waiting. -/
def waiting (i : InitState) : Ctx := { Ctx.reset with init := i }

/-- The context of reset with a CMOS index selected. -/
def at? (n : BitVec 7) : Ctx := { Ctx.reset with index := n }

/-- The context of reset with every PIT channel in one configuration. -/
def chans (a : Access) (k : Cursor) (n : Nat) : Ctx :=
  { Ctx.reset with ch0 := ⟨a, k, n⟩, ch1 := ⟨a, k, n⟩, ch2 := ⟨a, k, n⟩ }

/-- The context of reset is that of the state after reset. -/
theorem test_ctx_reset : State.reset.ctx = Ctx.reset := by decide

/-- 30_encoding R92 to R95: 0x20 with one word for each row. ICW1 0x12 is SNGL = 1, IC4 = 0. -/
theorem test_decode_pic_command :
    read? Ctx.reset 0x1002012#25 = some (.picIcw1 0b000#3 false false true false) ∧
    read? Ctx.reset 0x10020FC#25 = some (.picIcw1 0b111#3 true true false false) ∧
    read? Ctx.reset 0x1002003#25 = some (.picOcw2ClearRotateAeoi 3#3) ∧
    read? Ctx.reset 0x1002020#25 = some (.picOcw2NonspecificEoi 0#3) ∧
    read? Ctx.reset 0x1002040#25 = some (.picOcw2Nop 0#3) ∧
    read? Ctx.reset 0x1002062#25 = some (.picOcw2SpecificEoi 2#3) ∧
    read? Ctx.reset 0x1002080#25 = some (.picOcw2SetRotateAeoi 0#3) ∧
    read? Ctx.reset 0x10020A0#25 = some (.picOcw2RotateNonspecificEoi 0#3) ∧
    read? Ctx.reset 0x10020C7#25 = some (.picOcw2SetPriority 7#3) ∧
    read? Ctx.reset 0x10020E5#25 = some (.picOcw2RotateSpecificEoi 5#3) ∧
    read? Ctx.reset 0x1002068#25 = some (.picOcw3 false true true false false false) ∧
    read? Ctx.reset 0x100200A#25 = some (.picOcw3 false false false false true false) ∧
    read? Ctx.reset 0x100208C#25 = some (.picOcw3 true false false true false false) := by decide

/-- 30_encoding R96 to R101: 0x21, and the two reads. ICW4 0x03 is AEOI and µPM. -/
theorem test_decode_pic_data :
    read? (waiting .waitIcw2) 0x1002120#25 = some (.picIcw2 0x20#8) ∧
    read? (waiting .waitIcw3) 0x1002104#25 = some (.picIcw3 0x04#8) ∧
    read? (waiting .waitIcw4) 0x1002103#25 = some (.picIcw4 0b000#3 false false false true true) ∧
    read? (waiting .waitIcw4) 0x10021B4#25 = some (.picIcw4 0b101#3 true false true false false) ∧
    read? (waiting .idle) 0x10021FC#25 = some (.picOcw1 0xFC#8) ∧
    read? Ctx.reset 0x0002000#25 = some .picReadStatus ∧
    read? (waiting .waitIcw2) 0x0002100#25 = some .picReadImr := by decide

/-- 30_encoding R102 to R105: 0x43, in the order SC, latch, BCD, mode. 0xF0 is SC = 11 (V-T11); 0x0F is a latch whose
mode and BCD bits are not read (V-T12); 0x33 has BCD = 1 and mode 1 and is the BCD row (D20). -/
theorem test_decode_pit_control :
    read? Ctx.reset 0x10043F0#25 = some (.pitCtlBadChannel 0x30#6) ∧
    read? Ctx.reset 0x10043CF#25 = some (.pitCtlBadChannel 0x0F#6) ∧
    read? Ctx.reset 0x100430F#25 = some (.pitCtlLatchCh0 0xF#4) ∧
    read? Ctx.reset 0x1004340#25 = some (.pitCtlLatchCh1 0x0#4) ∧
    read? Ctx.reset 0x1004381#25 = some (.pitCtlLatchCh2 0x1#4) ∧
    read? Ctx.reset 0x1004337#25 = some (.pitCtlBcd .ch0 .lohi 0b011#3) ∧
    read? Ctx.reset 0x1004333#25 = some (.pitCtlBcd .ch0 .lohi 0b001#3) ∧
    read? Ctx.reset 0x1004330#25 = some (.pitCtlSetMode0 .ch0 .lohi) ∧
    read? Ctx.reset 0x1004314#25 = some (.pitCtlSetMode2 .ch0 .lo) ∧
    read? Ctx.reset 0x1004366#25 = some (.pitCtlSetMode3 .ch1 .hi) ∧
    read? Ctx.reset 0x10043B6#25 = some (.pitCtlSetMode3 .ch2 .lohi) ∧
    read? Ctx.reset 0x1004332#25 = some (.pitCtlBadMode .ch0 .lohi 0b001#3) ∧
    read? Ctx.reset 0x100433E#25 = some (.pitCtlBadMode .ch0 .lohi 0b111#3) ∧
    read? Ctx.reset 0x0004300#25 = some .pitCtlRead := by decide

/-- 30_encoding R106: the writes of 0x40 to 0x42, by access mode and cursor. -/
theorem test_decode_pit_writes :
    read? (chans .lo .low 0) 0x1004064#25 = some (.pitCh0WriteLo 0x64#8) ∧
    read? (chans .hi .low 0) 0x1004004#25 = some (.pitCh0WriteHi 0x04#8) ∧
    read? (chans .lohi .low 0) 0x1004000#25 = some (.pitCh0WriteLohiLow 0x00#8) ∧
    read? (chans .lohi .high 0) 0x1004004#25 = some (.pitCh0WriteLohiHigh 0x04#8) ∧
    read? (chans .lo .high 2) 0x1004164#25 = some (.pitCh1WriteLo 0x64#8) ∧
    read? (chans .hi .high 0) 0x1004104#25 = some (.pitCh1WriteHi 0x04#8) ∧
    read? (chans .lohi .low 1) 0x1004100#25 = some (.pitCh1WriteLohiLow 0x00#8) ∧
    read? (chans .lohi .high 0) 0x1004110#25 = some (.pitCh1WriteLohiHigh 0x10#8) ∧
    read? (chans .lo .low 0) 0x1004264#25 = some (.pitCh2WriteLo 0x64#8) ∧
    read? (chans .hi .low 0) 0x1004204#25 = some (.pitCh2WriteHi 0x04#8) ∧
    read? (chans .lohi .low 0) 0x1004200#25 = some (.pitCh2WriteLohiLow 0x00#8) ∧
    read? (chans .lohi .high 0) 0x1004210#25 = some (.pitCh2WriteLohiHigh 0x10#8) := by decide

/-- 30_encoding R106: the reads of 0x40 to 0x42; a latch with one byte left is still held. -/
theorem test_decode_pit_reads :
    read? (chans .lohi .low 1) 0x0004000#25 = some .pitCh0ReadLatched ∧
    read? (chans .lohi .low 0) 0x0004000#25 = some .pitCh0ReadLive ∧
    read? (chans .lohi .low 2) 0x0004100#25 = some .pitCh1ReadLatched ∧
    read? (chans .lo .low 0) 0x0004100#25 = some .pitCh1ReadLive ∧
    read? (chans .hi .low 1) 0x0004200#25 = some .pitCh2ReadLatched ∧
    read? (chans .hi .low 0) 0x0004200#25 = some .pitCh2ReadLive := by decide

/-- 30_encoding R107, R111: 0x70, and the reads of 0x71 by index. 0x8D selects 0x0D (V-R11). -/
theorem test_decode_cmos_reads :
    read? Ctx.reset 0x100708D#25 = some (.cmosIndexWrite true 0x0D#7) ∧
    read? Ctx.reset 0x0007000#25 = some .cmosIndexRead ∧
    read? (at? 0x00#7) 0x0007100#25 = some .cmosReadSeconds ∧
    read? (at? 0x01#7) 0x0007100#25 = some .cmosReadAlarmSeconds ∧
    read? (at? 0x02#7) 0x0007100#25 = some .cmosReadMinutes ∧
    read? (at? 0x03#7) 0x0007100#25 = some .cmosReadAlarmMinutes ∧
    read? (at? 0x04#7) 0x0007100#25 = some .cmosReadHours ∧
    read? (at? 0x05#7) 0x0007100#25 = some .cmosReadAlarmHours ∧
    read? (at? 0x06#7) 0x0007100#25 = some .cmosReadWeekday ∧
    read? (at? 0x07#7) 0x0007100#25 = some .cmosReadDay ∧
    read? (at? 0x08#7) 0x0007100#25 = some .cmosReadMonth ∧
    read? (at? 0x09#7) 0x0007100#25 = some .cmosReadYear ∧
    read? (at? 0x0A#7) 0x0007100#25 = some .cmosReadStatusA ∧
    read? (at? 0x0B#7) 0x0007100#25 = some .cmosReadStatusB ∧
    read? (at? 0x0C#7) 0x0007100#25 = some .cmosReadStatusC ∧
    read? (at? 0x0D#7) 0x0007100#25 = some .cmosReadStatusD ∧
    read? (at? 0x32#7) 0x0007100#25 = some .cmosReadCentury ∧
    read? (at? 0x0E#7) 0x0007100#25 = some .cmosReadFixed ∧
    read? (at? 0x33#7) 0x0007100#25 = some .cmosReadFixed := by decide

/-- 30_encoding R109 to R111: the writes of 0x71 by index. 0xAF is UIP = 1 and 0x2F; 0x12 is UIE and 24-hour mode. -/
theorem test_decode_cmos_writes :
    read? (at? 0x01#7) 0x1007130#25 = some (.cmosWriteAlarmSeconds 0x30#8) ∧
    read? (at? 0x03#7) 0x10071FF#25 = some (.cmosWriteAlarmMinutes 0xFF#8) ∧
    read? (at? 0x05#7) 0x1007181#25 = some (.cmosWriteAlarmHours 0x81#8) ∧
    read? (at? 0x0A#7) 0x10071AF#25 = some (.cmosWriteStatusA true 0x2F#7) ∧
    read? (at? 0x0B#7) 0x1007112#25 =
      some (.cmosWriteStatusB false false false true false false true false) ∧
    read? (at? 0x0B#7) 0x10071CD#25 =
      some (.cmosWriteStatusB true true false false true true false true) ∧
    read? (at? 0x0C#7) 0x10071FF#25 = some (.cmosWriteStatusCd 0xFF#8) ∧
    read? (at? 0x0D#7) 0x1007100#25 = some (.cmosWriteStatusCd 0x00#8) ∧
    read? (at? 0x00#7) 0x1007100#25 = some (.cmosWriteOther 0x00#8) := by decide

/-- The ports beside the block's (20_memory R71). -/
theorem test_decode_rejects :
    [0x100_1F00#25, 0x000_2200#25, 0x100_3F00#25, 0x000_4400#25, 0x100_6F00#25, 0x000_7200#25].all
      (fun w => (read? Ctx.reset w).isNone) = true := by decide

/-- The host's two questions, on the word of ICW1 0x11 (P1 step 1); a word of more than 25 bits is none. -/
theorem test_table_word :
    decodeTableWord 32 0x1002011 = some (.picIcw1 0#3 false false false true) ∧
    decodeTableWord 32 0x2000000 = none := by
  decide

/-! ## One step -/

/-- The next state of an outcome. -/
def next? (o : Host.Outcome State Fault Refusal) : Option State :=
  match o with
  | .next t => some t
  | _ => none

/-- One field of the state after an instruction. -/
def after {α : Type} (i : Instr) (s : State) (f : State → α) : Option α := (next? (exec i s)).map f

/-- One field of the state after one step at time t that performs `c`. -/
def afterCall {α : Type} (c : Call) (t : Nat) (s : State) (f : State → α) : Option α :=
  (next? (step { s with pending := [⟨c, ⟨t, defaultWall, 0x00#8⟩⟩] })).map f

/-- Reset with nothing attached (95_test_vectors section 2.2). -/
def bare : State :=
  State.construct { Params.default with irqMap := #v[none, none, none, none, none, none, none, none] } 0 defaultWall

/-- `bare` with the given PIC. -/
def withPic (f : Pic → Pic) : State := { bare with pic := f bare.pic }

/-- Reset with a running channel 0. -/
def running (m : PitMode) (reload : Count) (cur : Nat) (out : Bool) : State :=
  { State.reset with pit := { State.reset.pit with
      ch0 := { State.reset.pit.ch0 with mode := m, reload := reload, cur := cur, running := true, out := out } } }

/-- Reset with an access mode on channel 0. -/
def accessing (a : Access) : State :=
  { State.reset with pit := { State.reset.pit with ch0 := { State.reset.pit.ch0 with access := a } } }

/-- Reset with the given CMOS. -/
def withCmos (f : Cmos → Cmos) : State := { State.reset with cmos := f State.reset.cmos }

/-- `withFetchWord` makes the next step run the word: ICW1 0x11. -/
theorem test_withFetchWord :
    ((next? (step (State.reset.withFetchWord 32 0x1002011))).map fun t => (t.pic.cascade, t.pic.icw4, t.pic.init)) =
      some (true, true, .waitIcw2) := by decide

/-! ### PIC -/

/-- V-I1. -/
theorem test_icw1 : afterCall (.port (outAccess 0x20#16 0x11#8)) 0 bare
    (fun t => (t.pic.cascade, t.pic.icw4, t.pic.init, t.pic.imr)) = some (true, true, .waitIcw2, 0x00#8) := by decide

/-- R143: ICW1 in the middle of a sequence restarts it, and changes no other flag (D2). -/
theorem test_icw1_restarts : after (.picIcw1 0#3 false false true false)
    (withPic fun p => { p with init := .waitIcw4, imr := 0x55#8, aeoi := true, rot := true, readIsr := true })
    (fun t => (t.pic.init, t.pic.imr, t.pic.aeoi, t.pic.rot, t.pic.readIsr)) =
      some (.waitIcw2, 0x55#8, true, true, true) := by decide

/-- V-I2 and V-I3. -/
theorem test_clear_rotate : after (.picOcw2ClearRotateAeoi 0#3) (withPic fun p => { p with aeoi := true, rot := true })
    (fun t => t.pic.rot) = some false := by decide
theorem test_clear_rotate_no_aeoi : after (.picOcw2ClearRotateAeoi 0#3) (withPic fun p => { p with rot := true })
    (fun t => t.pic.rot) = some true := by decide

/-- V-I4, and V-I32 for fully nested. -/
theorem test_nonspecific_eoi : after (.picOcw2NonspecificEoi 0#3) (withPic fun p => { p with isr := 0x04#8, rot := true })
    (fun t => (t.pic.isr, t.pic.rot)) = some (0x00#8, false) := by decide
theorem test_nonspecific_eoi_nested : after (.picOcw2NonspecificEoi 0#3)
    { withPic fun p => { p with isr := 0x24#8 } with params := { bare.params with nesting := .fullyNested } }
    (fun t => t.pic.isr) = some 0x20#8 := by decide

/-- V-I6. -/
theorem test_ocw2_nop : next? (exec (.picOcw2Nop 0#3) bare) = some bare := by decide

/-- V-I7 and V-I8. -/
theorem test_specific_eoi : after (.picOcw2SpecificEoi 2#3) (withPic fun p => { p with isr := 0x04#8 })
    (fun t => t.pic.isr) = some 0x00#8 := by decide
theorem test_specific_eoi_other : after (.picOcw2SpecificEoi 3#3) (withPic fun p => { p with isr := 0x04#8 })
    (fun t => t.pic.isr) = some 0x04#8 := by decide

/-- V-I9. -/
theorem test_set_rotate : after (.picOcw2SetRotateAeoi 0#3) bare (fun t => (t.pic.rot, t.pic.base)) =
    some (true, 0#3) := by decide

/-- V-I10 and V-I11. -/
theorem test_rotate_nonspecific : after (.picOcw2RotateNonspecificEoi 0#3) (withPic fun p => { p with isr := 0x08#8 })
    (fun t => (t.pic.isr, t.pic.base, t.pic.rot)) = some (0x00#8, 4#3, true) := by decide
theorem test_rotate_nonspecific_idle : after (.picOcw2RotateNonspecificEoi 0#3) bare
    (fun t => (t.pic.base, t.pic.rot)) = some (0#3, true) := by decide

/-- V-I12 and V-I13. -/
theorem test_set_priority : after (.picOcw2SetPriority 7#3) bare (fun t => (t.pic.base, t.pic.rot)) =
    some (0#3, true) := by decide
theorem test_set_priority_ranks : after (.picOcw2SetPriority 4#3) bare (fun t => irqLines.map (rank t.pic.base)) =
    some [3, 4, 5, 6, 7, 0, 1, 2] := by decide

/-- V-I14. -/
theorem test_rotate_specific : after (.picOcw2RotateSpecificEoi 5#3) (withPic fun p => { p with isr := 0x20#8 })
    (fun t => (t.pic.isr, t.pic.base, t.pic.rot)) = some (0x00#8, 6#3, true) := by decide

/-- V-I16 and V-I18. -/
theorem test_ocw3_keeps : after (.picOcw3 false false false false false false) (withPic fun p => { p with readIsr := true })
    (fun t => t.pic.readIsr) = some true := by decide
theorem test_ocw3_smm : afterCall (.port (outAccess 0x20#16 0x6B#8)) 0 bare (fun t => (t.pic.readIsr, t.diag)) =
    some (true, [⟨.picSmm, some 0x20#16⟩]) := by decide

/-- V-I20 and V-I19, the ICW2 of each. -/
theorem test_icw2_single : after (.picIcw2 0x50#8) (withPic fun p => { p with init := .waitIcw2 })
    (fun t => (t.pic.vbase, t.pic.init)) = some (0x50#8, .idle) := by decide
theorem test_icw2_cascade : after (.picIcw2 0x20#8) (withPic fun p => { p with init := .waitIcw2, cascade := true, icw4 := true })
    (fun t => (t.pic.vbase, t.pic.init)) = some (0x20#8, .waitIcw3) := by decide

/-- V-I22: 0xAA is taken as ICW3, not as a mask. -/
theorem test_icw3_captures : afterCall (.port (outAccess 0x21#16 0xAA#8)) 0
    (withPic fun p => { p with init := .waitIcw3, cascade := true }) (fun t => (t.pic.init, t.pic.imr)) =
      some (.idle, 0x00#8) := by decide

/-- V-I21: ICW4 0x03. -/
theorem test_icw4 : afterCall (.port (outAccess 0x21#16 0x03#8)) 0 (withPic fun p => { p with init := .waitIcw4 })
    (fun t => (t.pic.aeoi, t.pic.init)) = some (true, .idle) := by decide

/-- V-I23, and V-S4 (b): masking keeps a request. -/
theorem test_ocw1 : afterCall (.port (outAccess 0x21#16 0xFE#8)) 0 bare (fun t => t.pic.imr) = some 0xFE#8 := by decide
theorem test_ocw1_keeps_irr : after (.picOcw1 0x02#8) (withPic fun p => { p with irr := 0x02#8 }) (fun t => t.pic.irr) =
    some 0x02#8 := by decide

/-- V-I24 and V-I25. -/
theorem test_read_irr : after .picReadStatus (withPic fun p => { p with irr := 0xA4#8 }) (fun t => t.ret) =
    some (.byte 0xA4#8) := by decide
theorem test_read_isr : after .picReadStatus (withPic fun p => { p with irr := 0x10#8, isr := 0x08#8, readIsr := true })
    (fun t => t.ret) = some (.byte 0x08#8) := by decide

/-- R160, in the middle of a sequence. -/
theorem test_read_imr : afterCall (.port (inAccess 0x21#16)) 0 (withPic fun p => { p with imr := 0xFE#8, init := .waitIcw3 })
    (fun t => (t.ret, t.pic.init)) = some (.byte 0xFE#8, .waitIcw3) := by decide

/-- V-I26 and V-I27. -/
theorem test_push_masked : after (.hostPushIrq 0) (withPic fun p => { p with imr := 0x01#8 }) (fun t => t.pic.irr) =
    some 0x00#8 := by decide
theorem test_push_range : afterCall (.pushIrq 8) 0 bare (fun t => (t.pic.irr, t.diag)) =
    some (0x00#8, [⟨.irqRange, none⟩]) := by decide

/-- V-S3 step 2, V-I28. -/
theorem test_poll_grants : afterCall .poll 0 (withPic fun p => { p with irr := 0xA4#8 })
    (fun t => (t.ret, t.pic.irr, t.pic.isr, t.delivered)) =
      some (.vector (some 0x0A#8), 0xA0#8, 0x04#8, [0x0A#8]) := by decide
theorem test_resolve_wraps : after .hostPollResolve (withPic fun p => { p with base := 3#3, irr := 0x85#8 })
    (fun t => t.ret) = some (.winner (some 7#3)) := by decide

/-- V-I30 and V-I31. -/
theorem test_resolve_held : after .hostPollResolve (withPic fun p => { p with isr := 0x01#8, irr := 0x02#8 })
    (fun t => t.ret) = some (.winner none) := by decide
theorem test_poll_preempts : afterCall .poll 0
    { withPic fun p => { p with isr := 0x20#8, irr := 0x44#8 } with params := { bare.params with nesting := .fullyNested } }
    (fun t => (t.ret, t.pic.isr, t.pic.irr)) = some (.vector (some 0x0A#8), 0x24#8, 0x40#8) := by decide

/-- V-I29 and V-I35. -/
theorem test_grant_vector_wraps : after (.hostPollGrant 5#3) (withPic fun p => { p with vbase := 0xFC#8 })
    (fun t => t.delivered) = some [0x01#8] := by decide
theorem test_grant_aeoi : after (.hostPollGrant 0#3) (withPic fun p => { p with aeoi := true, rot := true, irr := 0x09#8 })
    (fun t => (t.pic.irr, t.pic.isr, t.pic.base)) = some (0x08#8, 0x00#8, 1#3) := by decide

/-- V-H3 and V-I34. -/
theorem test_attach : after (.hostAttach 1 .cmos) State.reset
    (fun t => (deviceAt t.pic.attached 0#3, deviceAt t.pic.attached 1#3)) =
    some (some .pit, some .cmos) := by decide
theorem test_attach_range : afterCall (.attach 8 .cmos) 0 bare (fun t => (t.pic.attached, t.diag)) =
    some (bare.pic.attached, [⟨.irqRange, none⟩]) := by decide

/-! ### PIT -/

/-- V-P1 step 4 and step 5: phase 1 and the poll at ticks 1023 and 1024 of 1024. -/
theorem test_poll_before_crossing : after .hostPollAttachedDevices
    { running .mode3 1024#16 1024 true with inp := ⟨858209, defaultWall, 0x00#8⟩ }
    (fun t => (t.pit.ch0.cur, t.pit.ch0.out, t.pic.irr)) = some (1, false, 0x00#8) := by decide
theorem test_poll_at_crossing : afterCall .poll 858210 (running .mode3 1024#16 1024 true)
    (fun t => (t.ret, t.pit.ch0.cur, t.pit.ch0.out, t.pit.ch0.edge, t.pic.isr)) =
      some (.vector (some 0x08#8), 1024, true, false, 0x01#8) := by decide

/-- V-T11 (0xC2). -/
theorem test_bad_channel : afterCall (.port (outAccess 0x43#16 0xC2#8)) 0 State.reset (fun t => (t.pit, t.diag)) =
    some (State.reset.pit, [⟨.pitBadChannel, some 0x43#16⟩]) := by decide

/-- V-T26: a latch at tick 100 of 1000 while one is held; P4 step 3. -/
theorem test_latch_held : afterCall (.port (outAccess 0x43#16 0x00#8)) 83810
    { running .mode0 1000#16 1000 false with pit := { (running .mode0 1000#16 1000 false).pit with
        ch0 := { (running .mode0 1000#16 1000 false).pit.ch0 with latchVal := 1000#16, latchLeft := 2 } } }
    (fun t => (t.pit.ch0.latchVal, t.pit.ch0.cur)) = some (1000#16, 900) := by decide
theorem test_latch : afterCall (.port (outAccess 0x43#16 0x00#8)) 419049 (running .mode0 1000#16 1000 false)
    (fun t => (t.pit.ch0.latchVal, t.pit.ch0.latchLeft)) = some (0x01F4#16, 2) := by decide

/-- R187 for channels 1 and 2: the snapshot of a stopped channel after a one-byte access mode. -/
theorem test_latch_ch1 : after (.pitCtlLatchCh1 0#4)
    { State.reset with pit := { State.reset.pit with ch1 := { State.reset.pit.ch1 with access := .lo, cur := 65536 } } }
    (fun t => (t.pit.ch1.latchVal, t.pit.ch1.latchLeft, t.pit.ch0.latchLeft)) = some (0x0000#16, 1, 0) := by decide
theorem test_latch_ch2 : after (.pitCtlLatchCh2 0#4) State.reset (fun t => (t.pit.ch2.latchLeft, t.pit.ch1.latchLeft)) =
    some (2, 0) := by decide

/-- V-T7 and V-T8. -/
theorem test_bcd : afterCall (.port (outAccess 0x43#16 0x37#8)) 0 State.reset (fun t => (t.pit, t.diag)) =
    some (State.reset.pit, [⟨.pitBcd, some 0x43#16⟩]) := by decide
theorem test_bad_mode : afterCall (.port (outAccess 0x43#16 0x32#8)) 0 State.reset (fun t => (t.pit, t.diag)) =
    some (State.reset.pit, [⟨.pitBadMode, some 0x43#16⟩]) := by decide

/-- V-T27: mode 0 drops a latch and stops the channel, and keeps the edge (D28). -/
theorem test_set_mode0 : after (.pitCtlSetMode0 .ch0 .lohi)
    { State.reset with pit := { State.reset.pit with
        ch0 := { State.reset.pit.ch0 with running := true, cur := 5, latchLeft := 2, edge := true } } }
    (fun t => (t.pit.ch0.mode, t.pit.ch0.running, t.pit.ch0.cur, t.pit.ch0.latchLeft, t.pit.ch0.edge)) =
      some (.mode0, false, 0, 0, true) := by decide

/-- V-T4 and V-T6. -/
theorem test_set_mode2 : afterCall (.port (outAccess 0x43#16 0x14#8)) 0 State.reset
    (fun t => (t.pit.ch0.mode, t.pit.ch0.access, t.pit.ch0.out)) = some (.mode2, .lo, true) := by decide
theorem test_set_mode3 : afterCall (.port (outAccess 0x43#16 0xB6#8)) 0 State.reset
    (fun t => (t.pit.ch2.mode, t.pit.ch2.access, t.pit.ch0.mode)) = some (.mode3, .lohi, .mode3) := by decide

/-- V-T21 and V-T22. -/
theorem test_write_lo : after (.pitCh0WriteLo 0x64#8) (accessing .lo)
    (fun t => (t.pit.ch0.reload, t.pit.ch0.cur, t.pit.ch0.running)) = some (0x0064#16, 100, true) := by decide
theorem test_write_hi : after (.pitCh0WriteHi 0x04#8) (accessing .hi)
    (fun t => (t.pit.ch0.reload, t.pit.ch0.cur, t.pit.ch0.running)) = some (0x0400#16, 1024, true) := by decide

/-- V-P1 steps 2 and 3. -/
theorem test_write_low : afterCall (.port (outAccess 0x40#16 0x00#8)) 0 State.reset
    (fun t => (t.pit.ch0.reload, t.pit.ch0.cursor, t.pit.ch0.running)) = some (0x0000#16, .high, false) := by decide
theorem test_write_high : after (.pitCh0WriteLohiHigh 0x04#8)
    { State.reset with pit := { State.reset.pit with ch0 := { State.reset.pit.ch0 with cursor := .high } } }
    (fun t => (t.pit.ch0.reload, t.pit.ch0.cur, t.pit.ch0.cursor)) = some (0x0400#16, 1024, .low) := by decide

/-- The writes of channels 1 and 2 go to their own channel (R189); a count of 0 counts 65536 (R180). -/
theorem test_write_lo_ch1 : after (.pitCh1WriteLo 0x00#8) State.reset
    (fun t => (t.pit.ch1.cur, t.pit.ch0.cur, t.pit.ch2.cur)) =
    some (65536, 0, 0) := by decide
theorem test_write_hi_ch1 : after (.pitCh1WriteHi 0x02#8) State.reset
    (fun t => (t.pit.ch1.cur, t.pit.ch0.cur, t.pit.ch2.cur)) =
    some (512, 0, 0) := by decide
theorem test_write_low_ch1 : after (.pitCh1WriteLohiLow 0x02#8) State.reset
    (fun t => (t.pit.ch1.reload, t.pit.ch0.reload)) =
    some (2#16, 0#16) := by decide
theorem test_write_high_ch1 : after (.pitCh1WriteLohiHigh 0x02#8) State.reset
    (fun t => (t.pit.ch1.cur, t.pit.ch0.cur)) =
    some (512, 0) := by decide
theorem test_write_lo_ch2 : after (.pitCh2WriteLo 0x07#8) State.reset
    (fun t => (t.pit.ch2.cur, t.pit.ch0.cur, t.pit.ch1.cur)) =
    some (7, 0, 0) := by decide
theorem test_write_hi_ch2 : after (.pitCh2WriteHi 0x02#8) State.reset (fun t => (t.pit.ch2.cur, t.pit.ch1.cur)) =
    some (512, 0) := by decide
theorem test_write_low_ch2 : after (.pitCh2WriteLohiLow 0x02#8) State.reset
    (fun t => (t.pit.ch2.reload, t.pit.ch1.reload)) =
    some (2#16, 0#16) := by decide
theorem test_write_high_ch2 : after (.pitCh2WriteLohiHigh 0x10#8) State.reset
    (fun t => (t.pit.ch2.cur, t.pit.ch1.cur)) =
    some (4096, 0) := by decide

/-- V-T24: the two bytes of a latch. -/
theorem test_read_latched : after .pitCh0ReadLatched
    { State.reset with pit := { State.reset.pit with
        ch0 := { State.reset.pit.ch0 with latchVal := 0x1234#16, latchLeft := 2 } } }
    (fun t => (t.ret, t.pit.ch0.latchLeft, t.pit.ch0.cursor)) = some (.byte 0x34#8, 1, .high) := by decide
theorem test_read_latched_high : afterCall (.port (inAccess 0x40#16)) 0
    { State.reset with pit := { State.reset.pit with
        ch0 := { State.reset.pit.ch0 with latchVal := 0x1234#16, latchLeft := 1, cursor := .high } } }
    (fun t => (t.ret, t.pit.ch0.latchLeft, t.pit.ch0.cursor)) = some (.byte 0x12#8, 0, .low) := by decide

/-- P4 step 5 at tick 596 of 1000; V-T18 at tick 0 of 65536. -/
theorem test_read_live : afterCall (.port (inAccess 0x40#16)) 500000 (running .mode0 1000#16 1000 false)
    (fun t => (t.ret, t.pit.ch0.cur)) = some (.byte 0x94#8, 404) := by decide
theorem test_read_live_max : after .pitCh0ReadLive (running .mode3 0#16 65536 true) (fun t => t.ret) =
    some (.byte 0x00#8) := by decide

/-- R196 and R197 for channels 1 and 2; V-T28 at tick 16 of 4096. -/
theorem test_read_latched_ch1 : after .pitCh1ReadLatched
    { State.reset with pit := { State.reset.pit with
        ch1 := { State.reset.pit.ch1 with access := .hi, latchVal := 0x1234#16, latchLeft := 1 } } }
    (fun t => (t.ret, t.pit.ch1.latchLeft)) = some (.byte 0x12#8, 0) := by decide
theorem test_read_live_ch1 : after .pitCh1ReadLive
    { State.reset with pit := { State.reset.pit with ch1 := { State.reset.pit.ch1 with access := .lo, cur := 0x0203 } } }
    (fun t => (t.ret, t.pit.ch1.cursor)) = some (.byte 0x03#8, .low) := by decide
theorem test_read_latched_ch2 : after .pitCh2ReadLatched
    { State.reset with pit := { State.reset.pit with
        ch2 := { State.reset.pit.ch2 with latchVal := 0x1234#16, latchLeft := 2 } } }
    (fun t => (t.ret, t.pit.ch2.latchLeft)) = some (.byte 0x34#8, 1) := by decide
theorem test_read_live_ch2 : afterCall (.port (inAccess 0x42#16)) 13410
    { State.reset with pit := { State.reset.pit with
        ch2 := { State.reset.pit.ch2 with reload := 0x1000#16, cur := 4096, running := true } } }
    (fun t => (t.ret, t.pit.ch2.cur, t.pit.ch2.out, t.pit.ch2.cursor)) = some (.byte 0xF0#8, 4080, true, .high) := by decide

/-- V-C3: diagnosed, and the PIT is not reconciled (D50). -/
theorem test_control_read : afterCall (.port (inAccess 0x43#16)) 858210 (running .mode3 1024#16 1024 true)
    (fun t => (t.pit.ch0.cur, t.pit.last, t.diag)) = some (1024, 0, [⟨.woRead, some 0x43#16⟩]) := by decide

/-- P2 step 8: four crossings since the last poll are one request. -/
theorem test_pit_poll : after .hostPitPollIrq
    { running .mode3 1024#16 1024 true with
      pit := { (running .mode3 1024#16 1024 true).pit with last := 1716419 }, inp := ⟨5153447, defaultWall, 0x00#8⟩ }
    (fun t => (t.ret, t.pit.ch0.cur, t.pit.ch0.edge, t.pit.last)) = some (.asserted true, 1019, false, 5153447) := by decide

/-- V-S5: the mode-3 wave of reload 4, ten ticks. -/
theorem test_square_wave : (List.range 11).map (fun k =>
    let c := (running .mode3 4#16 4 true).pit.ch0.fold k
    (c.cur, c.out, c.edge)) =
      [(4, true, false), (3, true, false), (2, false, false), (1, false, false), (4, true, true), (3, true, true),
       (2, false, true), (1, false, true), (4, true, true), (3, true, true), (2, false, true)] := by decide

/-- V-T13, V-T15, V-T16, V-T19, V-T20: one fold of each. -/
theorem test_folds :
    (List.range 7).map (fun k => ((running .mode3 5#16 5 true).pit.ch0.fold k).out) =
      [true, true, true, false, false, true, true] ∧
    ((running .mode3 1#16 1 true).pit.ch0.fold 7).out = true ∧
    (List.range 4).map (fun k => ((running .mode2 3#16 3 true).pit.ch0.fold k).cur) = [3, 2, 1, 3] ∧
    ((running .mode2 1000#16 1000 true).pit.ch0.fold 2500).cur = 500 ∧
    ((running .mode0 10#16 10 false).pit.ch0.fold 9).cur = 1 ∧
    ((running .mode0 10#16 10 false).pit.ch0.fold 10).running = false := by decide

/-- The tick times of 95_test_vectors section 0. -/
theorem test_tick_times : [839, 838, 4191, 83810, 858209, 858210, 1000000, 54925000].map ticksAt =
    [1, 0, 5, 100, 1023, 1024, 1193, 65535] := by decide

/-! ### CMOS/RTC -/

/-- V-S1 and V-S2. -/
theorem test_enc : [0, 9, 10, 26, 59, 99].map (fun n => (enc false n, enc true n)) =
    [(0x00#8, 0x00#8), (0x09#8, 0x09#8), (0x10#8, 0x0A#8), (0x26#8, 0x1A#8), (0x59#8, 0x3B#8), (0x99#8, 0x63#8)] := by
  decide
theorem test_enc_hour : [0, 1, 11, 12, 13, 22, 23].map (fun h => (encHour false false h, encHour true false h)) =
    [(0x12#8, 0x0C#8), (0x01#8, 0x01#8), (0x11#8, 0x0B#8), (0x92#8, 0x8C#8), (0x81#8, 0x81#8), (0x90#8, 0x8A#8),
     (0x91#8, 0x8B#8)] := by decide

/-- V-R11: bit 7 is dropped. -/
theorem test_index_write : afterCall (.port (outAccess 0x70#16 0x8D#8)) 0 State.reset (fun t => t.cmos.index) =
    some 0x0D#7 := by decide

/-- V-C4. -/
theorem test_index_read : afterCall (.port (inAccess 0x70#16)) 0 (withCmos fun c => { c with index := 0x0B#7 })
    (fun t => (t.cmos.index, t.diag)) = some (0x0B#7, [⟨.woRead, some 0x70#16⟩]) := by decide

/-- V-R1 to V-R8 in BCD, 12-hour mode and in binary, 24-hour mode. -/
def bcd12 : State := withCmos fun c => { c with binary := false, h24 := false }

theorem test_time_bcd12 : [Instr.cmosReadSeconds, .cmosReadMinutes, .cmosReadHours, .cmosReadWeekday, .cmosReadDay,
    .cmosReadMonth, .cmosReadYear, .cmosReadCentury].map (fun i => after i bcd12 (fun t => t.ret)) =
    [0x09#8, 0x05#8, 0x81#8, 0x04#8, 0x11#8, 0x11#8, 0x26#8, 0x20#8].map (fun b => some (.byte b)) := by decide
theorem test_time_binary24 : [Instr.cmosReadSeconds, .cmosReadMinutes, .cmosReadHours, .cmosReadWeekday, .cmosReadDay,
    .cmosReadMonth, .cmosReadYear, .cmosReadCentury].map (fun i => after i State.reset (fun t => t.ret)) =
    [0x09#8, 0x05#8, 0x0D#8, 0x04#8, 0x0B#8, 0x0B#8, 0x1A#8, 0x14#8].map (fun b => some (.byte b)) := by decide

/-- V-R9, V-R10, V-R17 and V-R14 to V-R15, the reads. -/
theorem test_register_reads : [Instr.cmosReadStatusA, .cmosReadStatusB, .cmosReadStatusD, .cmosReadFixed,
    .cmosReadAlarmSeconds, .cmosReadAlarmMinutes, .cmosReadAlarmHours].map (fun i => after i
      (withCmos fun c => { c with index := 0x10#7, alarmS := 0x30#8, alarmM := 0x05#8, alarmH := 0xFF#8 })
      (fun t => t.ret)) =
    [0x26#8, 0x06#8, 0x80#8, 0x00#8, 0x30#8, 0x05#8, 0xFF#8].map (fun b => some (.byte b)) := by decide

/-- 10_state R55: a listed fixed byte, and one that is not listed. -/
theorem test_rom : (romRead [(0x10, 0x44#8), (0x14, 0x0F#8)] 0x14, romRead [(0x10, 0x44#8), (0x14, 0x0F#8)] 0x11) =
    (0x0F#8, 0x00#8) := by decide

/-- V-S7, and R249: only UF enabled and set. -/
theorem test_status_c : afterCall (.port (inAccess 0x71#16)) 0
    (withCmos fun c => { c with index := 0x0C#7, pf := true, af := true, uf := true, uie := true, line := true })
    (fun t => (t.ret, t.cmos.pf, t.cmos.af, t.cmos.uf, t.cmos.line)) =
      some (.byte 0xF0#8, false, false, false, false) := by decide
theorem test_status_c_disabled : after .cmosReadStatusC (withCmos fun c => { c with uf := true }) (fun t => t.ret) =
    some (.byte 0x10#8) := by decide

/-- V-R14, R254, P3 step 9. -/
theorem test_alarm_writes : (after (.cmosWriteAlarmSeconds 0x30#8) State.reset
    (fun t => (t.cmos.alarmS, t.cmos.alarmM)),
    after (.cmosWriteAlarmMinutes 0xFF#8) State.reset (fun t => (t.cmos.alarmM, t.cmos.alarmH)),
    after (.cmosWriteAlarmHours 0x81#8) State.reset (fun t => (t.cmos.alarmH, t.cmos.alarmS))) =
    (some (0x30#8, 0x00#8), some (0xFF#8, 0x00#8), some (0x81#8, 0x00#8)) := by decide

/-- V-R12 and V-R13. -/
theorem test_status_a_write : afterCall (.port (outAccess 0x71#16 0xAF#8)) 0 (withCmos fun c => { c with index := 0x0A#7 })
    (fun t => (t.cmos.rega, t.cmos.rate)) = some (0x2F#7, 2) := by decide
theorem test_status_b_write : afterCall (.port (outAccess 0x71#16 0x12#8)) 0 (withCmos fun c => { c with index := 0x0B#7 })
    (fun t => (t.cmos.uie, t.cmos.h24, t.cmos.binary, t.cmos.pie)) = some (true, true, false, false) := by decide

/-- V-C5. -/
theorem test_status_cd_write : afterCall (.port (outAccess 0x71#16 0xFF#8)) 0
    (withCmos fun c => { c with index := 0x0C#7, uf := true }) (fun t => (t.cmos.uf, t.diag)) =
      some (true, [⟨.roWrite, some 0x71#16⟩]) := by decide

/-- V-R16. -/
theorem test_other_write : afterCall (.port (outAccess 0x71#16 0x00#8)) 0 State.reset (fun t => (t.cmos, t.diag)) =
    some (State.reset.cmos, []) := by decide

/-- V-R20 and V-R23. -/
theorem test_cmos_poll_update : after .hostCmosPollIrq
    { withCmos fun c => { c with uie := true } with inp := ⟨1000000000, { defaultWall with sec := 10 }, 0x00#8⟩ }
    (fun t => (t.ret, t.cmos.uf, t.cmos.line, t.cmos.af)) = some (.asserted true, true, true, false) := by decide
theorem test_cmos_poll_periodic : [499999999, 500000000].map (fun m => after .hostCmosPollIrq
    { withCmos fun c => { c with rega := 0x2F#7, pie := true } with inp := ⟨m, defaultWall, 0x00#8⟩ }
    (fun t => (t.ret, t.cmos.pf))) = [some (.asserted false, false), some (.asserted true, true)] := by decide

/-- P3 step 13: the alarm, with the CMOS on line 1. -/
theorem test_alarm : ((next? (step
    { withCmos fun c => { c with binary := false, h24 := false, aie := true, alarmS := 0x10#8, alarmM := 0x05#8, alarmH := 0x81#8 } with
      pic := { State.reset.pic with attached := #v[some .pit, some .cmos, none, none, none, none, none, none] }
      pending := [⟨.poll, ⟨1000000000, { defaultWall with sec := 10 }, 0x00#8⟩⟩] })).map
    fun t => (t.ret, t.cmos.af, t.cmos.line, t.pic.isr)) = some (.vector (some 0x09#8), true, true, 0x02#8) := by decide

/-- The periodic rates. -/
theorem test_rates : ((List.range 16).map fun n => periodicRate (BitVec.ofNat 4 n)) =
    [0, 256, 128, 8192, 4096, 2048, 1024, 512, 256, 128, 64, 32, 16, 8, 4, 2] := by decide

/-! ### The port contract -/

/-- V-C1, V-C7. -/
theorem test_bad_size : afterCall (.port ⟨.write, 0x21#16, 0x00FF#32, 2⟩) 0 State.reset (fun t => (t.pic.imr, t.diag)) =
    some (0x00#8, [⟨.badSize, some 0x21#16⟩]) := by decide
theorem test_bad_size_pit : afterCall (.port ⟨.write, 0x43#16, 0x36#32, 4⟩) 10 State.reset (fun t => (t.pit, t.diag)) =
    some (State.reset.pit, [⟨.badSize, some 0x43#16⟩]) := by decide

/-- 40_port_contract R131 with a host that routes one more port to the PIC; 20_memory R72 without. -/
theorem test_unmapped : afterCall (.port (outAccess 0x22#16 0x00#8)) 0
    { State.reset with params := { Params.default with picExtra := 1 } } (fun t => t.diag) =
      some [⟨.unmapped, some 0x22#16⟩] := by decide
theorem test_foreign : afterCall (.port (outAccess 0x22#16 0x00#8)) 0 State.reset
    (fun t => t.diag) = some [] := by decide

/-! ## The hypotheses of the statements are met

One theorem for each statement that has hypotheses, or one for each of its clauses: concrete states and operands that
meet all of them together, at a boundary value where a clause has a range. -/

/-- An idle step at a time, with the default wall clock. -/
def now (t : Nat) : Inputs := ⟨t, defaultWall, 0x00#8⟩

/-- A state with one operation issued. -/
def issuing (c : Call) (s : State) : State := { s with pending := [⟨c, now 7⟩] }

/-- The hypothesis of a statement about a step: it answers a next state. -/
def Answers (s : State) : Prop := ∃ t, step s = .next t

theorem witness_DecodeOfEncodeIsTheInstruction :
    (Instr.pitCtlBadMode .ch2 .lohi 0b111#3).wf = true ∧
    Ctx.reset.selects (.pitCtlBadMode .ch2 .lohi 0b111#3) = true ∧
    encode (.pitCtlBadMode .ch2 .lohi 0b111#3) = some 0x10043BE#25 := by decide

theorem witness_DecodeOfEncodeIsTheInstruction_context :
    (Instr.cmosReadFixed).wf = true ∧ (at? 0x7F#7).selects .cmosReadFixed = true ∧
    encode .cmosReadFixed = some 0x0007100#25 := by decide

theorem witness_EncodeOfDecodeIsTheWord : decode (at? 0x0C#7) 0x00071FF#25 = .ok .cmosReadStatusC := rfl

theorem witness_DecoderAnswersExactlyTheEightPorts :
    decode Ctx.reset 0x1007200#25 = .error (.noRegister 0x72#16) ∧
    decode Ctx.reset 0x0001F00#25 = .error (.noRegister 0x1F#16) := ⟨rfl, rfl⟩

theorem witness_StepRunsTheIssuedOperation_access :
    (issuing (.port (outAccess 0x43#16 0x36#8)) bare).Issues (.port (outAccess 0x43#16 0x36#8)) (now 7) [] ∧
    (ownerOf (outAccess 0x43#16 0x36#8).port).isSome = true ∧ (outAccess 0x43#16 0x36#8).size = 1 ∧
    decode (issuing (.port (outAccess 0x43#16 0x36#8)) bare).ctx (accessWord (outAccess 0x43#16 0x36#8)) =
      .ok (.pitCtlSetMode3 .ch0 .lohi) := ⟨rfl, rfl, rfl, rfl⟩

theorem witness_StepRunsTheIssuedOperation_calls :
    (issuing (.pushIrq 8) bare).Issues (.pushIrq 8) (now 7) [] ∧
    (issuing (.attach 7 .cmos) bare).Issues (.attach 7 .cmos) (now 7) [] ∧
    (issuing .poll bare).Issues .poll (now 7) [] ∧ bare.pending = [] := ⟨rfl, rfl, rfl, rfl⟩

/-- Phase 2 with a winner, and with none. -/
theorem witness_StepRunsTheIssuedOperation_poll :
    after .hostPollResolve (withPic fun p => { p with irr := 0x80#8 }) (fun t => t.ret) = some (.winner (some 7#3)) ∧
    after .hostPollResolve bare (fun t => t.ret) = some (.winner none) := by decide

/-- The state whose host routes one port beyond each unit. -/
def routing : State := { bare with params := { Params.default with picExtra := 1, pitExtra := 1, cmosExtra := 1 } }

/-- Sizes 2 and 0, at a port of the block and at one that the host routes to it. -/
theorem witness_WrongSizeIsDiagnosedOnly :
    ((issuing (.port ⟨.read, 0x71#16, 0#32, 2⟩) bare).Issues (.port ⟨.read, 0x71#16, 0#32, 2⟩) (now 7) [] ∧
      (ownerOf 0x71#16).isSome = true ∧ (2 : Nat) ≠ 1) ∧
    ((issuing (.port ⟨.write, 0x72#16, 0#32, 0⟩) routing).Issues (.port ⟨.write, 0x72#16, 0#32, 0⟩) (now 7) [] ∧
      routedBeyond (issuing (.port ⟨.write, 0x72#16, 0#32, 0⟩) routing).params 0x72#16 = true ∧ (0 : Nat) ≠ 1) :=
  ⟨⟨rfl, by decide, by decide⟩, ⟨rfl, by decide, by decide⟩⟩

/-- The ports just past what the host routes, and the last one it routes. -/
theorem witness_ForeignPortsChangeNothing :
    ((issuing (.port (inAccess 0x45#16)) routing).Issues (.port (inAccess 0x45#16)) (now 7) [] ∧
      ownerOf 0x45#16 = none ∧ routedBeyond (issuing (.port (inAccess 0x45#16)) routing).params 0x45#16 = false) ∧
    ((issuing (.port (inAccess 0x44#16)) routing).Issues (.port (inAccess 0x44#16)) (now 7) [] ∧
      ownerOf 0x44#16 = none ∧ routedBeyond (issuing (.port (inAccess 0x44#16)) routing).params 0x44#16 = true ∧
      (inAccess 0x44#16).size = 1) :=
  ⟨⟨rfl, by decide, by decide⟩, ⟨rfl, by decide, by decide, rfl⟩⟩

theorem witness_StepAppendsAtMostOneDiagnostic : Answers (issuing (.pushIrq 8) bare) := ⟨_, rfl⟩

/-- An access of each unit. -/
theorem witness_AccessTouchesOnlyItsUnit :
    ((∃ t, performAccess (outAccess 0x43#16 0x36#8) bare = .next t) ∧ ownerOf 0x43#16 ≠ some .pic ∧
      ownerOf 0x43#16 ≠ some .cmos) ∧
    ((∃ t, performAccess (outAccess 0x70#16 0x0B#8) bare = .next t) ∧ ownerOf 0x70#16 ≠ some .pit) ∧
    (∃ t, performAccess (outAccess 0x21#16 0xFF#8) bare = .next t) :=
  ⟨⟨⟨_, rfl⟩, by decide, by decide⟩, ⟨⟨_, rfl⟩, by decide⟩, ⟨_, rfl⟩⟩

theorem witness_StepKeepsTheParameters : Answers (issuing (.attach 7 .cmos) bare) := ⟨_, rfl⟩

theorem witness_ReconciliationTimesNeverDecrease :
    Answers (issuing (.port (inAccess 0x40#16)) { bare with pit := { bare.pit with last := 8 } }) := ⟨_, rfl⟩

theorem witness_PureReadsChangeNoState : Instr.cmosReadFixed ∈ [Instr.picReadStatus, .picReadImr, .cmosReadSeconds,
    .cmosReadMinutes, .cmosReadHours, .cmosReadWeekday, .cmosReadDay, .cmosReadMonth, .cmosReadYear, .cmosReadCentury,
    .cmosReadAlarmSeconds, .cmosReadAlarmMinutes, .cmosReadAlarmHours, .cmosReadStatusA, .cmosReadStatusB,
    .cmosReadStatusD, .cmosReadFixed] := by decide

theorem witness_ConstructionMeetsTheInvariants : Params.default.wf = true := by decide

/-- A running channel with its last tick to go, and a latch with its two bytes to read. -/
theorem witness_StepKeepsThePitInvariants :
    (running .mode0 1#16 1 false).pit.Good ∧
    Answers (issuing (.port (inAccess 0x40#16)) (running .mode0 1#16 1 false)) :=
  ⟨by decide, ⟨_, rfl⟩⟩

/-- One IRQ in service, under single nesting. -/
theorem witness_StepKeepsOneIrqInService :
    (withPic fun p => { p with isr := 0x80#8 }).NestingGood ∧
    Answers (issuing (.pushIrq 0) (withPic fun p => { p with isr := 0x80#8 })) := ⟨by decide, ⟨_, rfl⟩⟩

/-- The line high, with a source pending. -/
theorem witness_StepKeepsTheLineLawful :
    (withCmos fun c => { c with uf := true, uie := true, line := true }).cmos.LineGood ∧
    Answers (issuing (.pushIrq 1) (withCmos fun c => { c with uf := true, uie := true, line := true })) :=
  ⟨by decide, ⟨_, rfl⟩⟩

theorem witness_TopIsTheMemberOfLeastRank : irqBit 0x80#8 7#3 = true ∧ irqBit 0x01#8 0#3 = true := by decide

/-- A state with operations issued, at the times 0, 1, 2 and so on. -/
def issuingAll (cs : List Call) (s : State) : State := { s with pending := cs.mapIdx fun n c => ⟨c, now n⟩ }

/-- ICW1 0x11, 0xFC, 0xFF and 0x12: each SNGL and IC4, with the ignored bits clear and set, and with an operation left
over. -/
theorem witness_InitSequenceCapturesTheDataPort :
    ((0x11#8).getLsbD 4 = true ∧ (0x11#8).getLsbD 1 = false ∧ (0x11#8).getLsbD 0 = true ∧
      (issuingAll [.port (outAccess 0x20#16 0x11#8), .port (outAccess 0x21#16 0x20#8),
        .port (outAccess 0x21#16 0x04#8), .port (outAccess 0x21#16 0xFF#8)] bare).pending =
      [⟨.port (outAccess 0x20#16 0x11#8), now 0⟩, ⟨.port (outAccess 0x21#16 0x20#8), now 1⟩,
        ⟨.port (outAccess 0x21#16 0x04#8), now 2⟩, ⟨.port (outAccess 0x21#16 0xFF#8), now 3⟩]) ∧
    ((0xFC#8).getLsbD 4 = true ∧ (0xFC#8).getLsbD 1 = false ∧ (0xFC#8).getLsbD 0 = false ∧
      (issuingAll [.port (outAccess 0x20#16 0xFC#8), .port (outAccess 0x21#16 0x20#8),
        .port (outAccess 0x21#16 0x04#8), .poll] bare).pending =
      [⟨.port (outAccess 0x20#16 0xFC#8), now 0⟩, ⟨.port (outAccess 0x21#16 0x20#8), now 1⟩,
        ⟨.port (outAccess 0x21#16 0x04#8), now 2⟩, ⟨.poll, now 3⟩]) ∧
    ((0xFF#8).getLsbD 4 = true ∧ (0xFF#8).getLsbD 1 = true ∧ (0xFF#8).getLsbD 0 = true ∧
      (issuingAll [.port (outAccess 0x20#16 0xFF#8), .port (outAccess 0x21#16 0x20#8),
        .port (outAccess 0x21#16 0x02#8)] bare).pending =
      [⟨.port (outAccess 0x20#16 0xFF#8), now 0⟩, ⟨.port (outAccess 0x21#16 0x20#8), now 1⟩,
        ⟨.port (outAccess 0x21#16 0x02#8), now 2⟩]) ∧
    ((0x12#8).getLsbD 4 = true ∧ (0x12#8).getLsbD 1 = true ∧ (0x12#8).getLsbD 0 = false ∧
      (issuingAll [.port (outAccess 0x20#16 0x12#8), .port (outAccess 0x21#16 0x20#8)] bare).pending =
      [⟨.port (outAccess 0x20#16 0x12#8), now 0⟩, ⟨.port (outAccess 0x21#16 0x20#8), now 1⟩]) :=
  ⟨⟨rfl, rfl, rfl, rfl⟩, ⟨rfl, rfl, rfl, rfl⟩, ⟨rfl, rfl, rfl, rfl⟩, ⟨rfl, rfl, rfl, rfl⟩⟩

/-- Both nestings; nothing in service; IRQ 7 the highest in service. -/
theorem witness_NonspecificEoiEndsTheTopIrq :
    bare.params.nesting = .single ∧ ({ Params.default with nesting := .fullyNested } : Params).nesting = .fullyNested ∧
    bare.pic.isr = 0x00#8 ∧ top 7#3 0x81#8 = some 7#3 := by decide

/-- Line numbers 7 and 8, masked and unmasked. -/
theorem witness_PushIrqRaisesUnmaskedLinesOnly :
    8 ≤ (8 : Nat) ∧ (7 = (7#3).toNat ∧ irqBit 0x80#8 7#3 = true) ∧ (0 = (0#3).toNat ∧ irqBit 0xFE#8 0#3 = false) := by
  decide

theorem witness_AttachReplacesOneLine : 8 ≤ (8 : Nat) ∧ 7 = (7#3).toNat := by decide

/-- The PIT on lines 0 and 6, external devices on 1 and 3, the CMOS on 2 and 7. Every device asks: the PIT's count of 1
crosses at the first tick, and the RTC's clock has changed with its update interrupt enabled. -/
def crowded : State :=
  { running .mode2 1#16 1 true with
    pic := { State.reset.pic with
      attached := #v[some .pit, some (.ext 1), some .cmos, some (.ext 3), none, none, some .pit, some .cmos] }
    cmos := { State.reset.cmos with uie := true }
    inp := ⟨839, { defaultWall with sec := 59 }, 0x0A#8⟩ }

/-- The requests that phase 1 raises in `crowded`: the lowest line of each unit and every external line. -/
theorem witness_PollPhaseOneCollectsRequests_raises :
    after .hostPollAttachedDevices crowded (fun t => t.pic.irr) = some 0x0F#8 ∧
    after .hostPitPollIrq crowded (fun t => t.ret) = some (.asserted true) ∧
    after .hostCmosPollIrq crowded (fun t => t.ret) = some (.asserted true) ∧
    (withPic fun p => { p with irr := 0x80#8 }).pic.irr.getLsbD 7 = true := by decide

/-- A unit on its lowest line and on a further one, an external device, and the two units attached to no line. -/
theorem witness_PollPhaseOneCollectsRequests :
    (deviceAt crowded.pic.attached 3#3 = some (.ext 3) ∧ irqBit crowded.pic.irr 3#3 = false) ∧
    (deviceAt crowded.pic.attached 0#3 = some .pit ∧
      ∀ j : Irq, j.toNat < (0#3).toNat → deviceAt crowded.pic.attached j ≠ some .pit) ∧
    (deviceAt crowded.pic.attached 6#3 = some .pit ∧ (0#3).toNat < (6#3).toNat) ∧
    (deviceAt crowded.pic.attached 2#3 = some .cmos ∧
      ∀ j : Irq, j.toNat < (2#3).toNat → deviceAt crowded.pic.attached j ≠ some .cmos) ∧
    (deviceAt crowded.pic.attached 7#3 = some .cmos ∧ (2#3).toNat < (7#3).toNat) ∧
    (∀ i : Irq, deviceAt bare.pic.attached i ≠ some .pit) ∧
    (∀ i : Irq, deviceAt bare.pic.attached i ≠ some .cmos) := by decide

/-- What is asked of a winner, under each nesting. -/
theorem witness_ResolutionNamesTheWinner :
    (withPic fun p => { p with irr := 0x80#8 }).pic.resolve .single = some 7#3 ∧
    (withPic fun p => { p with irr := 0x01#8, isr := 0x02#8 }).pic.resolve .fullyNested = some 0#3 ∧
    (withPic fun p => { p with irr := 0x02#8, isr := 0x02#8 }).pic.resolve .fullyNested = none := by decide

/-- Without AEOI, and with it. -/
theorem witness_GrantTakesTheInterrupt :
    bare.pic.aeoi = false ∧ (withPic fun p => { p with aeoi := true }).pic.aeoi = true := by decide

theorem witness_PollDeliversTheHighestRequest : (issuing .poll State.reset).Issues .poll (now 7) [] := rfl

theorem witness_SingleNestingHoldsBackEveryGrant :
    bare.params.nesting = .single ∧ (withPic fun p => { p with isr := 0x80#8 }).pic.isr ≠ 0x00#8 ∧
    Answers (issuing .poll (withPic fun p => { p with isr := 0x80#8, irr := 0x01#8 })) := ⟨by decide, by decide, ⟨_, rfl⟩⟩

/-- A poll with a masked line pending. -/
theorem witness_MaskedLineNeverEntersService :
    ((next? (step (issuing .poll (withPic fun p => { p with imr := 0x80#8, irr := 0x80#8 })))).map fun t =>
      irqBit t.pic.imr 7#3) = some true ∧
    irqBit (withPic fun p => { p with imr := 0x80#8, irr := 0x80#8 }).pic.imr 7#3 = true ∧
    irqBit (withPic fun p => { p with imr := 0x80#8, irr := 0x80#8 }).pic.isr 7#3 = false := by decide

/-- Each of the four ways the base moves. -/
theorem witness_BaseMovesOnlyByRotation :
    after (.picOcw2RotateNonspecificEoi 0#3) (withPic fun p => { p with isr := 0x08#8 }) (fun t => t.pic.base) =
      some 4#3 ∧
    after (.picOcw2SetPriority 6#3) bare (fun t => t.pic.base) = some 7#3 ∧
    after (.picOcw2RotateSpecificEoi 5#3) bare (fun t => t.pic.base) = some 6#3 ∧
    after (.hostPollGrant 0#3) (withPic fun p => { p with aeoi := true, rot := true }) (fun t => t.pic.base) =
      some 1#3 ∧
    bare.pic.base = 0#3 := by decide

theorem witness_EoiUndoesTheGrant : bare.pic.aeoi = false ∧ irqBit bare.pic.isr 7#3 = false := by decide

theorem witness_ReloadsAndTicks : (0xFFFF#16 : Count) ≠ 0#16 ∧ (838 : Nat) ≤ 839 ∧ (839 : Nat) ≤ 839 := by decide

/-- A running channel with one tick left, and a channel that does not run. -/
theorem witness_FoldIsThatManyTicks :
    (running .mode3 1#16 1 true).pit.ch0.cur = 1 ∧ (running .mode3 1#16 1 true).pit.ch0.running = true ∧
    Channel.reset.running = false := by decide

/-- One tick left; the last tick before and the first after the crossing; every mode; an output in step. -/
theorem witness_TicksHaveTheClosedForms :
    ((running .mode3 4#16 4 true).pit.ch0.running = true ∧ 1 ≤ (running .mode3 4#16 4 true).pit.ch0.cur) ∧
    (3 < (running .mode3 4#16 4 true).pit.ch0.cur ∧ (running .mode3 4#16 4 true).pit.ch0.cur ≤ 4) ∧
    (running .mode2 4#16 4 true).pit.ch0.mode = .mode2 ∧ (running .mode0 1#16 1 false).pit.ch0.mode = .mode0 ∧
    ((running .mode3 4#16 4 true).pit.ch0.cur ≤ eff (running .mode3 4#16 4 true).pit.ch0.reload ∧
      (running .mode3 4#16 4 true).pit.ch0.out =
        decide (half (eff (running .mode3 4#16 4 true).pit.ch0.reload) < (running .mode3 4#16 4 true).pit.ch0.cur)) := by
  decide

theorem witness_ExtraReconciliationIsUnobservable :
    (running .mode3 1024#16 65536 true).pit.Good ∧ (858209 : Nat) ≤ 858210 := by decide

/-- No time elapsed, and time elapsed for channels that meet 10_state R46. -/
theorem witness_ReconciliationKeepsTheConfiguration :
    (0 : Nat) ≤ Pit.last (Pit.reset 0) ∧
    ((running .mode3 1024#16 65536 true).pit.Good ∧ (running .mode3 1024#16 65536 true).pit.last < 1) := by
  decide

theorem witness_OneShotRisesOnceAtItsCount : (running .mode0 100#16 100 false).pit.ch0.mode = .mode0 := rfl

theorem witness_SquareWaveDutyCycle : (running .mode3 5#16 5 true).pit.ch0.mode = .mode3 := rfl

theorem witness_OneByteCountStartsTheChannel :
    (bare.pit.reconcile bare.inp.mono).chan .ch0 = Channel.reset := rfl

theorem witness_TwoByteCountBytes : (bare.pit.reconcile bare.inp.mono).chan .ch1 = Channel.reset := rfl

theorem witness_LatchAndModeWords : (bare.pit.reconcile bare.inp.mono).chan .ch2 = Channel.reset := rfl

/-- The byte is the high one in `HI` access mode and at the high cursor of `LOHI`. -/
theorem witness_DataPortReads :
    (bare.pit.reconcile bare.inp.mono).chan .ch0 = Channel.reset ∧ (accessing .hi).pit.ch0.access = .hi ∧
    Channel.reset.access = .lohi := ⟨rfl, rfl, rfl⟩

/-- The bytes of the count 65536, at two different times, and an operation left over. -/
theorem witness_ProgrammingAChannelStartsItsCount :
    (bare.pit.chan .ch2).access = .lohi ∧ (bare.pit.chan .ch2).cursor = .low ∧
    (issuingAll [.port (outAccess (dataPort .ch2) 0x00#8), .port (outAccess (dataPort .ch2) 0x00#8), .poll] bare).pending =
      [⟨.port (outAccess (dataPort .ch2) 0x00#8), now 0⟩, ⟨.port (outAccess (dataPort .ch2) 0x00#8), now 1⟩,
        ⟨.poll, now 2⟩] :=
  ⟨rfl, rfl, rfl⟩

/-- The latch commands 0x00 of channel 0 and 0x8F of channel 2. -/
theorem witness_LatchedReadIsOneSnapshot :
    ((bare.pit.chan .ch0).access = .lohi ∧ (bare.pit.chan .ch0).cursor = .low ∧ (bare.pit.chan .ch0).latchLeft = 0 ∧
      (0x00#8).toNat / 64 + 0x40 = (dataPort .ch0).toNat ∧ (0x00#8).toNat / 16 % 4 = 0 ∧
      (issuingAll [.port (outAccess 0x43#16 0x00#8), .port (inAccess (dataPort .ch0)),
        .port (inAccess (dataPort .ch0))] bare).pending =
      [⟨.port (outAccess 0x43#16 0x00#8), now 0⟩, ⟨.port (inAccess (dataPort .ch0)), now 1⟩,
        ⟨.port (inAccess (dataPort .ch0)), now 2⟩]) ∧
    ((bare.pit.chan .ch2).access = .lohi ∧ (bare.pit.chan .ch2).cursor = .low ∧ (bare.pit.chan .ch2).latchLeft = 0 ∧
      (0x8F#8).toNat / 64 + 0x40 = (dataPort .ch2).toNat ∧ (0x8F#8).toNat / 16 % 4 = 0 ∧
      (issuingAll [.port (outAccess 0x43#16 0x8F#8), .port (inAccess (dataPort .ch2)),
        .port (inAccess (dataPort .ch2))] bare).pending =
      [⟨.port (outAccess 0x43#16 0x8F#8), now 0⟩, ⟨.port (inAccess (dataPort .ch2)), now 1⟩,
        ⟨.port (inAccess (dataPort .ch2)), now 2⟩]) :=
  ⟨⟨rfl, rfl, rfl, rfl, rfl, rfl⟩, ⟨rfl, rfl, rfl, rfl, rfl, rfl⟩⟩

/-- The largest value and the largest hour. -/
theorem witness_EncodingsRoundTrip : (99 : Nat) ≤ 99 ∧ (23 : Nat) ≤ 23 ∧ (12 : Nat) ≤ 23 := by decide

/-- Reset with a fixed-byte table and an index selected. -/
def fixedAt (n : BitVec 7) : State :=
  { withCmos fun c => { c with index := n } with
    params := { Params.default with cmosRom := [(0x0E, 0x44#8), (0x7F, 0xFF#8)] } }

/-- The first and the last listed index, and the two next to them. -/
theorem witness_StoredRegisterReads :
    Rom.wf (fixedAt 0x0E#7).params.cmosRom = true ∧
    ((fixedAt 0x0E#7).cmos.index.toNat, 0x44#8) ∈ (fixedAt 0x0E#7).params.cmosRom ∧
    ((fixedAt 0x7F#7).cmos.index.toNat, 0xFF#8) ∈ (fixedAt 0x7F#7).params.cmosRom ∧
    (∀ b : Byte, ((fixedAt 0x0F#7).cmos.index.toNat, b) ∉ (fixedAt 0x0F#7).params.cmosRom) ∧
    (∀ b : Byte, ((fixedAt 0x7E#7).cmos.index.toNat, b) ∉ (fixedAt 0x7E#7).params.cmosRom) := by
  refine ⟨by decide, by decide, by decide, ?_, ?_⟩ <;> intro b <;> simp [fixedAt, withCmos]

/-- A byte written to 0x71 and read back, at an index. -/
def readingBack (n : BitVec 7) : State :=
  { withCmos fun c => { c with index := n } with
    pending := [⟨.port (outAccess 0x71#16 0xFF#8), now 0⟩, ⟨.port (inAccess 0x71#16), now 1⟩] }

/-- Each of the two indices. -/
theorem witness_StatusBytesReadBack :
    ((readingBack 0x0A#7).cmos.index = 0x0A#7 ∧ (readingBack 0x0B#7).cmos.index = 0x0B#7) ∧
    (readingBack 0x0B#7).pending = [⟨.port (outAccess 0x71#16 0xFF#8), now 0⟩, ⟨.port (inAccess 0x71#16), now 1⟩] :=
  ⟨⟨rfl, rfl⟩, rfl⟩

/-- The first and the last rate of the shift. -/
theorem witness_PeriodicSourceFiresOnABoundary : 3 ≤ (3#4).toNat ∧ 3 ≤ (15#4).toNat := by decide

end Sys2Proof.Tests
end

section
/-!
PROOFS. The state construction leaves (10_state R61, 70_reset_and_hazards R310): what the reset of a unit gives where the
table is not the reset's own record, and the statement of the whole table.
-/
namespace Sys2Proof.Machine

/-- Every channel of the PIT is reset alike (10_state R61, `pit.ch[k]`). -/
@[simp] theorem Pit.reset_chan (mono : Nat) (k : PitChan) : (Pit.reset mono).chan k = Channel.reset := by
  cases k with
  | ch0 => rfl
  | ch1 => rfl
  | ch2 => rfl

/-- 10_state R52: the stored part of status register A is the parameter's byte modulo 2^7, so its bit 7 is dropped. -/
theorem Cmos.reset_rega (p : Params) (mono : Nat) (wall : Wall) :
    (Cmos.reset p mono wall).rega = BitVec.ofNat 7 p.statusAReset.toNat :=
  congrArg (BitVec.ofNat 7) (Nat.shiftRight_zero (n := p.statusAReset.toNat))

/-- Settles O15: the witness is the constructed state. Two of its parts are not the reset's own record and have a lemma
each, the channel `k` and the low seven bits of status register A. -/
theorem constructionLeavesTheStatedValues : Obligations.ConstructionLeavesTheStatedValues := by
  intro p m w k
  refine ⟨State.construct p m w, rfl, ?pic, ?chan, ?last, ?cmos, ?diag, ?params⟩
  case pic => rfl
  case chan => exact Pit.reset_chan m k
  case last => rfl
  case cmos => rw [← Cmos.reset_rega p m w]; rfl
  case diag => rfl
  case params => rfl

end Sys2Proof.Machine
end

section
/-!
PROOFS. The priority rules of 41_pic: ranks and `top` (R140), the end of interrupt with and without rotation (R144 to
R152), the request of a line (R161), the table of attached devices (R165), and what holds a request back (R163).
-/
namespace Sys2Proof.Machine

/-! ## Ranks (41_pic R140) -/

/-- `rank(i) = (i - base) mod 8`, in the natural numbers. -/
theorem rank_eq_mod (base i : Irq) : rank base i = (i.toNat + 8 - base.toNat) % 8 := by
  have hb : base.toNat < 8 := base.isLt
  rw [rank, BitVec.toNat_sub]
  omega

/-- The scan of `top` visits the lines in the order of their ranks. -/
@[simp] theorem rank_base_add (base r : Irq) : rank base (base + r) = r.toNat := by
  rw [rank, BitVec.add_comm, BitVec.add_sub_cancel]

/-- No two IRQs have the same rank. -/
theorem rank_inj {base i j : Irq} (h : rank base i = rank base j) : i = j := by
  rw [← add_ofNat_rank base i, h, add_ofNat_rank]

theorem toNat_add_one (i : Irq) : (i + 1#3).toNat = (i.toNat + 1) % 8 := BitVec.toNat_add i 1#3

/-- The IRQ that the base has just gone past is the lowest (41_pic R150 to R152). -/
theorem rank_past_self (i : Irq) : rank (i + 1#3) i = 7 := by
  have hi : i.toNat < 8 := i.isLt
  rw [rank_eq_mod, toNat_add_one]
  omega

/-! ## `top` (41_pic R140) -/

/-- The lines in the order in which `top` scans them, from the base on. -/
def topScan (base : Irq) : List Irq := irqLines.map (fun r => base + r)

theorem top_eq_find?_topScan (base : Irq) (set : Byte) : top base set = (topScan base).find? (irqBit set) := rfl

theorem mem_topScan (base i : Irq) : i ∈ topScan base :=
  List.mem_map.2 ⟨BitVec.ofNat 3 (rank base i), mem_irqLines _, add_ofNat_rank base i⟩

theorem topScan_ascends (base : Irq) : (topScan base).Pairwise (fun i j => rank base i < rank base j) := by
  have h : irqLines.Pairwise (fun r q => r.toNat < q.toNat) := by decide
  simpa [topScan, List.pairwise_map] using h

theorem top_eq_none_iff (base : Irq) (set : Byte) : top base set = none ↔ ∀ i : Irq, irqBit set i = false := by
  simp [top_eq_find?_topScan, List.find?_eq_none, mem_topScan]

theorem irqBit_of_top {base i : Irq} {set : Byte} (h : top base set = some i) : irqBit set i = true :=
  List.find?_some h

/-- No member of the set comes before `top` in the scan, and what comes after it has a higher rank number. -/
theorem rank_top_le {base i j : Irq} {set : Byte} (h : top base set = some i) (hj : irqBit set j = true) :
    rank base i ≤ rank base j := by
  obtain ⟨-, before, after, hscan, hbefore⟩ := List.find?_eq_some_iff_append.1 h
  have hasc : (before ++ i :: after).Pairwise (fun a b => rank base a < rank base b) := hscan ▸ topScan_ascends base
  have hmem : j ∈ before ++ i :: after := hscan ▸ mem_topScan base j
  obtain hjb | hja := List.mem_append.1 hmem
  · exact absurd hj (by simpa using hbefore j hjb)
  · obtain rfl | hja := List.mem_cons.1 hja
    · exact le_rfl
    · exact (List.rel_of_pairwise_cons (List.pairwise_append.1 hasc).2.1 hja).le

/-- `top` is the member of least rank: there is only one, because ranks are distinct. -/
theorem top_eq_some_iff (base i : Irq) (set : Byte) :
    top base set = some i ↔ irqBit set i = true ∧ ∀ j : Irq, irqBit set j = true → rank base i ≤ rank base j := by
  refine ⟨fun h => ⟨irqBit_of_top h, fun j hj => rank_top_le h hj⟩, fun ⟨hi, hleast⟩ => ?_⟩
  cases hk : top base set with
  | none => simp [(top_eq_none_iff base set).1 hk i] at hi
  | some k =>
    have hki : rank base k = rank base i := Nat.le_antisymm (rank_top_le hk hi) (hleast k (irqBit_of_top hk))
    rw [rank_inj hki]

/-! ## End of interrupt (41_pic R144 to R152) -/

/-- A non-specific EOI writes no register of the PIC but ISR. -/
theorem Pic.clearNs_eq (p : Pic) (n : Nesting) : p.clearNs n = { p with isr := (p.clearNs n).isr } := by
  cases n with
  | single => rfl
  | fullyNested => unfold Pic.clearNs; cases p.topIsr <;> rfl

theorem Pic.clearNs_single_isr (p : Pic) : (p.clearNs .single).isr = 0x00#8 := rfl

/-- Under fully nested, the bit of `top_isr()` goes, if there is one. -/
theorem Pic.irqBit_clearNs_fullyNested (p : Pic) (j : Irq) :
    irqBit (p.clearNs .fullyNested).isr j = (irqBit p.isr j && top p.base p.isr != some j) := by
  unfold Pic.clearNs Pic.topIsr
  cases top p.base p.isr with
  | none => simp
  | some k => simp [bne, Bool.beq_comm (a := j)]

/-- A rotation writes no register of the PIC but the base. -/
theorem Pic.rotatePastTop_eq (p : Pic) (e : Option Irq) :
    p.rotatePastTop e = { p with base := (p.rotatePastTop e).base } := by
  cases e <;> rfl

theorem Pic.rotatePastTop_none_base (p : Pic) : (p.rotatePastTop none).base = p.base := rfl

theorem Pic.rotatePastTop_some_base (p : Pic) (j : Irq) : (p.rotatePastTop (some j)).base = j + 1#3 := rfl

theorem Pic.topIsr_none_of_isr_zero {p : Pic} (h : p.isr = 0x00#8) : p.topIsr = none :=
  (top_eq_none_iff _ _).2 fun i => by rw [h, irqBit_zero]

/-! ## Requests and devices (41_pic R161, R165) -/

theorem Pic.request_of_masked {p : Pic} {i : Irq} (h : irqBit p.imr i = true) : p.request i = p := if_pos h

theorem Pic.request_of_unmasked {p : Pic} {i : Irq} (h : irqBit p.imr i = false) :
    p.request i = { p with irr := setIrq p.irr i } := if_neg (by simp [h])

@[simp] theorem deviceAt_setDevice (t : Vector (Option Device) 8) (i j : Irq) (d : Device) :
    deviceAt (setDevice t i d) j = if j = i then some d else deviceAt t j := by
  simp only [deviceAt, setDevice, Vector.getElem_set, BitVec.toNat_inj, eq_comm]

/-- `attach` with a number beyond line 7 is diagnosed only. -/
theorem exec_hostAttach_of_ge {n : Nat} (h : 8 ≤ n) (d : Device) (s : State) :
    exec (.hostAttach n d) s = .next (s.raise .irqRange none) := congrArg Host.Outcome.next (if_pos h)

/-- `attach` with a line's own number writes the table of devices only. -/
theorem exec_hostAttach_line (i : Irq) (d : Device) (s : State) :
    exec (.hostAttach i.toNat d) s =
      .next { s with pic := { s.pic with attached := setDevice s.pic.attached i d } } := by
  have hi : ¬ 8 ≤ i.toNat := Nat.not_le.2 i.isLt
  simp [exec, execHostAttach, hi]

/-! ## What holds a request back (41_pic R163) -/

theorem Pic.blocked_single_eq_false_iff (p : Pic) (i : Irq) : p.blocked .single i = false ↔ p.isr = 0x00#8 := by
  simp [Pic.blocked]

theorem Pic.blocked_fullyNested_eq_false_iff (p : Pic) (i : Irq) :
    p.blocked .fullyNested i = false ↔ ∀ j : Irq, irqBit p.isr j = true → rank p.base i < rank p.base j := by
  simp [Pic.blocked, List.any_eq_false, mem_irqLines]

/-- Phase 2 names the pending unmasked IRQ of least rank, unless what is in service holds it back. -/
theorem Pic.resolve_eq_some_iff (p : Pic) (n : Nesting) (i : Irq) :
    p.resolve n = some i ↔ top p.base p.candidates = some i ∧ p.blocked n i = false := by
  refine ⟨fun h => ?_, fun ⟨htop, hfree⟩ => by simp [Pic.resolve, htop, hfree]⟩
  obtain ⟨htop, hfree, -, -⟩ := p.resolve_some n i h
  exact ⟨htop, hfree⟩

end Sys2Proof.Machine
end

section
/-!
PROOFS. The statements of 41_pic that one instruction of the PIC settles, each from the rules of the section before it.
-/
namespace Sys2Proof.Machine

/-- Settles O20: the scan visits every line, in the order of its rank. -/
theorem topIsTheMemberOfLeastRank : Obligations.TopIsTheMemberOfLeastRank := by
  intro base set
  refine ⟨rank_eq_mod base, top_eq_none_iff base set, fun i => ?_⟩
  simp only [← rank_eq_mod]
  exact top_eq_some_iff base i set

/-- Settles O24: both commands end what `clear_ns()` ends, and the second rotates past the top IRQ of the ISR before. -/
theorem nonspecificEoiEndsTheTopIrq : Obligations.NonspecificEoiEndsTheTopIrq := by
  intro s l
  have hsingle : s.params.nesting = .single → (s.pic.clearNs s.params.nesting).isr = 0x00#8 := by
    intro hn
    rw [hn, Pic.clearNs_single_isr]
  have hnested : s.params.nesting = .fullyNested → ∀ j : Irq, irqBit (s.pic.clearNs s.params.nesting).isr j =
      (irqBit s.pic.isr j && top s.pic.base s.pic.isr != some j) := by
    intro hn
    rw [hn]
    exact s.pic.irqBit_clearNs_fullyNested
  refine ⟨⟨_, rfl, ?frame, hsingle, hnested⟩, ⟨_, rfl, ?rotFrame, ?rotSingle, ?rotNested, ?stays, ?moves⟩⟩
  case frame => rw [Pic.clearNs_eq]
  case rotFrame => rw [Pic.rotatePastTop_eq, Pic.clearNs_eq]
  case rotSingle => simpa using hsingle
  case rotNested => simpa using hnested
  case stays =>
    intro hisr
    simp only [Pic.topIsr_none_of_isr_zero hisr, Pic.rotatePastTop_none_base, Pic.clearNs_base]
  case moves =>
    intro j htop
    have hj : s.pic.topIsr = some j := htop
    simp only [hj, Pic.rotatePastTop_some_base, toNat_add_one]

/-- Settles O28, by the three cases of the line number: beyond line 7, masked, unmasked. -/
theorem pushIrqRaisesUnmaskedLinesOnly : Obligations.PushIrqRaisesUnmaskedLinesOnly := by
  intro s n
  have hpush : exec (.hostPushIrq n) s = .next (s.pushIrq n) := rfl
  rw [hpush]
  refine ⟨fun hn => ?beyond, ?masked, ?unmasked⟩
  case beyond =>
    obtain ⟨-, h⟩ | ⟨hlt, -⟩ := s.pushIrq_cases n
    · rw [h]; rfl
    · exact absurd hlt (Nat.not_lt.2 hn)
  case masked =>
    rintro i rfl hi
    rw [State.pushIrq_line, Pic.request_of_masked hi]
  case unmasked =>
    rintro i rfl hi
    refine ⟨_, rfl, ?_⟩
    rw [State.pushIrq_line, Pic.request_of_unmasked hi]
    exact ⟨rfl, irqBit_setIrq s.pic.irr i⟩

/-- Settles O29, by the two cases of the line number. -/
theorem attachReplacesOneLine : Obligations.AttachReplacesOneLine := by
  intro s n d
  refine ⟨fun hn => exec_hostAttach_of_ge hn d s, ?_⟩
  rintro i rfl
  exact ⟨_, exec_hostAttach_line i d s, rfl, fun j => deviceAt_setDevice s.pic.attached i j d⟩

/-- Settles O31: the winner is `top` of the candidates, and what lets it pass depends on the nesting. -/
theorem resolutionNamesTheWinner : Obligations.ResolutionNamesTheWinner := by
  intro s
  refine ⟨s.pic.resolve s.params.nesting, rfl, fun i => ?_⟩
  rw [Pic.resolve_eq_some_iff, top_eq_some_iff]
  cases s.params.nesting with
  | single => simp [Pic.blocked_single_eq_false_iff, and_assoc]
  | fullyNested => simp [Pic.blocked_fullyNested_eq_false_iff, and_assoc]

/-- Settles O21: each meaning is the record the rule gives. -/
theorem initWordsAdvanceTheSequence : Obligations.InitWordsAdvanceTheSequence := by
  intro s
  exact ⟨fun _ _ _ _ _ => rfl, fun _ => rfl, fun _ => rfl, fun _ _ _ _ _ _ => rfl⟩

/-- Settles O23: command 0 acts under AEOI only, and commands 3 and 6 are read off the ISR bits and the base. -/
theorem plainOcw2CommandsWriteTheirBits : Obligations.PlainOcw2CommandsWriteTheirBits := by
  intro s l
  refine ⟨?clearRotate, rfl, ?specificEoi, rfl, ?setPriority⟩
  case clearRotate =>
    refine congrArg Host.Outcome.next ?_
    split
    next haeoi =>
      have hrot : (s.pic.rot && !s.pic.aeoi) = false := by simp [haeoi]
      rw [hrot]
    next haeoi =>
      have hrot : (s.pic.rot && !s.pic.aeoi) = s.pic.rot := by simp [haeoi]
      rw [hrot]
  case specificEoi => exact ⟨_, rfl, rfl, irqBit_clearIrq s.pic.isr l⟩
  case setPriority => exact ⟨_, rfl, rfl, toNat_add_one l⟩

/-- Settles O25: the base goes past L whatever its in-service bit is. -/
theorem rotateSpecificEoiMakesTheNamedIrqLowest : Obligations.RotateSpecificEoiMakesTheNamedIrqLowest := by
  intro s l
  exact ⟨_, rfl, rfl, irqBit_clearIrq s.pic.isr l, toNat_add_one l, rank_past_self l⟩

/-- Settles O26, by the two bits OCW3 acts on: ESMM and RR. -/
theorem ocw3SelectsTheStatusRead : Obligations.Ocw3SelectsTheStatusRead := by
  intro s b7 esmm smm p rr ris
  cases esmm <;> cases rr <;> rfl

/-- Settles O27: each meaning is the record the rule gives. -/
theorem maskAndStatusReads : Obligations.MaskAndStatusReads := by
  intro s
  exact ⟨fun _ => rfl, rfl, rfl⟩

end Sys2Proof.Machine
end

section
/-!
PROOFS. The rules of 42_pit on reloads, halves and tick counts (R180 to R182), the two bytes of a count, what a command
and a data byte make of a channel (R187 to R197), the poll (R199), and the meaning of the rows that come once for each
channel or mode.
-/
namespace Sys2Proof.Machine

/-! ## Reloads, halves and ticks (42_pit R180 to R182) -/

theorem eff_zero : eff 0#16 = 65536 := rfl

theorem eff_of_ne_zero {r : Count} (h : r ≠ 0#16) : eff r = r.toNat := if_neg h

theorem toNat_count_ofNat {n : Nat} (h : n < 65536) : (BitVec.ofNat 16 n).toNat = n :=
  (BitVec.toNat_ofNat n 16).trans (Nat.mod_eq_of_lt h)

/-- The effective reload of a count given as a number. -/
theorem eff_ofNat {n : Nat} (h : n < 65536) : eff (BitVec.ofNat 16 n) = if n = 0 then 65536 else n := by
  have hn := toNat_count_ofNat h
  by_cases h0 : n = 0
  · rw [if_pos h0, h0, eff_zero]
  · have hne : BitVec.ofNat 16 n ≠ 0#16 := fun hz => h0 (hn.symm.trans (congrArg BitVec.toNat hz))
    rw [if_neg h0, eff_of_ne_zero hne, hn]

theorem eff_pos (r : Count) : 1 ≤ eff r := by
  by_cases h : r = 0#16
  · rw [h, eff_zero]; omega
  · rw [eff_of_ne_zero h]
    exact Nat.pos_of_ne_zero fun hz => h (BitVec.eq_of_toNat_eq hz)

theorem eff_le (r : Count) : eff r ≤ 65536 := by
  by_cases h : r = 0#16
  · rw [h, eff_zero]
  · rw [eff_of_ne_zero h]
    exact r.isLt.le

theorem eff_eq_65536_iff (r : Count) : eff r = 65536 ↔ r = 0#16 := by
  refine ⟨fun h => ?_, fun h => h ▸ eff_zero⟩
  by_contra hr
  exact r.isLt.ne (eff_of_ne_zero hr ▸ h)

theorem half_bounds (n : Nat) : half n + half n ≤ n ∧ n ≤ half n + half n + 1 := by
  unfold half
  omega

/-- `T(t)` is the floor of the real quotient. -/
theorem ticksAt_floor (t : Nat) :
    ticksAt t * 1000000000 ≤ t * 1193182 ∧ t * 1193182 < (ticksAt t + 1) * 1000000000 := by
  unfold ticksAt
  omega

theorem ticksAt_mono {a b : Nat} (h : a ≤ b) : ticksAt a ≤ ticksAt b :=
  Nat.div_le_div_right (Nat.mul_le_mul_right _ h)

/-- No tick is lost or gained where an interval is split (42_pit R182). -/
theorem ticksAt_sub_split {a b c : Nat} (hab : a ≤ b) (hbc : b ≤ c) :
    ticksAt c - ticksAt a = (ticksAt b - ticksAt a) + (ticksAt c - ticksAt b) := by
  have hleft := ticksAt_mono hab
  have hright := ticksAt_mono hbc
  omega

/-! ## The two bytes of a count -/

@[simp] theorem toNat_lowByte (v : Count) : (lowByte v).toNat = v.toNat % 256 := by simp [lowByte]

@[simp] theorem toNat_highByte (v : Count) : (highByte v).toNat = v.toNat / 256 := by
  have hv : v.toNat < 65536 := v.isLt
  simp only [highByte, BitVec.extractLsb'_toNat, Nat.shiftRight_eq_div_pow]
  omega

theorem toNat_byte_eq_zero_iff (v : Byte) : v.toNat = 0 ↔ v = 0x00#8 := by simp [BitVec.toNat_eq]

@[simp] theorem toNat_countOf (cur : Nat) : (countOf cur).toNat = cur % 65536 := BitVec.toNat_ofNat cur 16

theorem append_byte_eq_ofNat (hi lo : Byte) : (hi ++ lo : Count) = BitVec.ofNat 16 (hi.toNat * 256 + lo.toNat) := by
  have hhi : hi.toNat < 256 := hi.isLt
  have hlo : lo.toNat < 256 := lo.isLt
  apply BitVec.eq_of_toNat_eq
  rw [BitVec.toNat_append, ← Nat.shiftLeft_add_eq_or_of_lt hlo, Nat.shiftLeft_eq, toNat_count_ofNat (by omega)]

/-! ## What a command makes of a channel (42_pit R187, R188) -/

/-- The snapshot is taken only where none is held. -/
theorem Channel.latch_eq (c : Channel) : c.latch = { c with
    latchVal := if c.latchLeft = 0 then BitVec.ofNat 16 c.cur else c.latchVal
    latchLeft := if c.latchLeft = 0 then (if c.access = .lohi then 2 else 1) else c.latchLeft } := by
  by_cases h : c.latchLeft = 0
  · simp only [Channel.latch, if_pos h, countOf]
  · simp only [Channel.latch, if_neg h]

/-! ## What a data byte makes of a channel (42_pit R190 to R194) -/

/-- Starting a count given as a number (42_pit R194). -/
theorem Channel.start_ofNat (c : Channel) {n : Nat} (h : n < 65536) :
    ({ c with reload := BitVec.ofNat 16 n } : Channel).start = { c with
      reload := BitVec.ofNat 16 n, cur := if n = 0 then 65536 else n, running := true,
      out := decide (c.mode ≠ .mode0) } := by
  have hout : (!(c.mode == .mode0)) = decide (c.mode ≠ .mode0) := by cases c.mode <;> rfl
  simp only [Channel.start, eff_ofNat h, hout]

theorem Channel.writeLo_eq (c : Channel) (v : Byte) : c.writeLo v = { c with
    reload := BitVec.ofNat 16 v.toNat, cur := if v = 0x00#8 then 65536 else v.toNat, running := true,
    out := decide (c.mode ≠ .mode0) } := by
  have hv : v.toNat < 65536 := v.isLt.trans (by decide)
  simp only [Channel.writeLo, ← BitVec.ofNat_toNat, c.start_ofNat hv, toNat_byte_eq_zero_iff]

theorem Channel.writeHi_eq (c : Channel) (v : Byte) : c.writeHi v = { c with
    reload := BitVec.ofNat 16 (v.toNat * 256), cur := if v = 0x00#8 then 65536 else v.toNat * 256, running := true,
    out := decide (c.mode ≠ .mode0) } := by
  have hv : v.toNat * 256 < 65536 := Nat.mul_lt_mul_of_pos_right v.isLt (by decide)
  have hreload : (v ++ 0x00#8 : Count) = BitVec.ofNat 16 (v.toNat * 256) := by
    simp [append_byte_eq_ofNat]
  have h0 : v.toNat * 256 = 0 ↔ v = 0x00#8 := by rw [← toNat_byte_eq_zero_iff]; omega
  simp only [Channel.writeHi, hreload, c.start_ofNat hv, h0]

/-- The low byte takes the place of the low byte of the reload (42_pit R192). -/
theorem Channel.writeLow_eq (c : Channel) (v : Byte) : c.writeLow v = { c with
    reload := BitVec.ofNat 16 (c.reload.toNat / 256 * 256 + v.toNat), cursor := .high } := by
  rw [Channel.writeLow, append_byte_eq_ofNat, toNat_highByte]

/-- The high byte completes the reload, whose low byte stays (42_pit R193). -/
theorem Channel.writeHigh_eq (c : Channel) (v : Byte) : c.writeHigh v = { c with
    reload := BitVec.ofNat 16 (v.toNat * 256 + c.reload.toNat % 256), cursor := .low,
    cur := if v.toNat * 256 + c.reload.toNat % 256 = 0 then 65536 else v.toNat * 256 + c.reload.toNat % 256,
    running := true, out := decide (c.mode ≠ .mode0) } := by
  have hv : v.toNat < 256 := v.isLt
  have hn : v.toNat * 256 + c.reload.toNat % 256 < 65536 := by omega
  rw [Channel.writeHigh, append_byte_eq_ofNat, toNat_lowByte]
  exact Channel.start_ofNat { c with cursor := .low } hn

/-! ## What a read takes from a channel (42_pit R196, R197) -/

/-- The next read returns the high byte: always in `HI` access mode, and at the high cursor of `LOHI`. -/
def Channel.readsHigh (c : Channel) : Bool := decide (c.access = .hi ∨ (c.access = .lohi ∧ c.cursor = .high))

theorem Channel.readsHigh_iff (c : Channel) :
    c.readsHigh = true ↔ c.access = .hi ∨ (c.access = .lohi ∧ c.cursor = .high) := decide_eq_true_iff

theorem Channel.readByte_eq (c : Channel) (val : Count) :
    c.readByte val = BitVec.ofNat 8 (if c.readsHigh = true then val.toNat / 256 else val.toNat % 256) := by
  have hhigh : highByte val = BitVec.ofNat 8 (val.toNat / 256) := by
    rw [← toNat_highByte, BitVec.ofNat_toNat, BitVec.setWidth_eq]
  have hlow : lowByte val = BitVec.ofNat 8 (val.toNat % 256) := by
    rw [← toNat_lowByte, BitVec.ofNat_toNat, BitVec.setWidth_eq]
  rw [apply_ite (BitVec.ofNat 8), ← hhigh, ← hlow]
  simp only [Channel.readByte, Channel.readsHigh_iff]
  cases c.access with
  | lo => simp
  | hi => simp
  | lohi =>
    cases c.cursor with
    | low => simp
    | high => simp

theorem Channel.cursorAfterRead_eq (c : Channel) :
    c.cursorAfterRead = if c.access = .lohi then (if c.readsHigh = true then .low else .high) else c.cursor := by
  simp only [Channel.cursorAfterRead, Channel.readsHigh_iff]
  cases c.access with
  | lo => simp
  | hi => simp
  | lohi =>
    cases c.cursor with
    | low => simp
    | high => simp

theorem Channel.readLatched_eq (c : Channel) : c.readLatched =
    (BitVec.ofNat 8 (if c.readsHigh = true then c.latchVal.toNat / 256 else c.latchVal.toNat % 256),
      { c with
        latchLeft := c.latchLeft - 1
        cursor := if c.access = .lohi then (if c.readsHigh = true then .low else .high) else c.cursor }) := by
  rw [Channel.readLatched, Channel.readByte_eq, Channel.cursorAfterRead_eq]

/-- The live count is truncated to 16 bits, so 65536 reads as 0. -/
theorem Channel.readLive_eq (c : Channel) : c.readLive =
    (BitVec.ofNat 8 (if c.readsHigh = true then c.cur % 65536 / 256 else c.cur % 256),
      { c with
        cursor := if c.access = .lohi then (if c.readsHigh = true then .low else .high) else c.cursor }) := by
  have hlow : c.cur % 65536 % 256 = c.cur % 256 := Nat.mod_mod_of_dvd _ (by decide)
  rw [Channel.readLive, Channel.readByte_eq, Channel.cursorAfterRead_eq, toNat_countOf, hlow]

/-! ## The poll (42_pit R199) -/

/-- The poll writes nothing but the PIT and its answer. -/
theorem exec_hostPitPollIrq (s : State) : exec .hostPitPollIrq s =
    .next { s with pit := (s.pit.poll s.inp.mono).2, ret := .asserted (s.pit.poll s.inp.mono).1 } := rfl

/-! ## The rows that come once per channel or mode -/

section

variable (k : PitChan) (v : Byte) (s : State)

@[simp] theorem exec_pitWriteLo : exec (pitWriteLo k v) s = .next (s.onChannel k (·.writeLo v)) := by cases k <;> rfl
@[simp] theorem exec_pitWriteHi : exec (pitWriteHi k v) s = .next (s.onChannel k (·.writeHi v)) := by cases k <;> rfl
@[simp] theorem exec_pitWriteLohiLow : exec (pitWriteLohiLow k v) s = .next (s.onChannel k (·.writeLow v)) := by
  cases k <;> rfl
@[simp] theorem exec_pitWriteLohiHigh : exec (pitWriteLohiHigh k v) s = .next (s.onChannel k (·.writeHigh v)) := by
  cases k <;> rfl
@[simp] theorem exec_pitReadLatched : exec (pitReadLatched k) s = .next (s.readChannel k Channel.readLatched) := by
  cases k <;> rfl
@[simp] theorem exec_pitReadLive : exec (pitReadLive k) s = .next (s.readChannel k Channel.readLive) := by
  cases k <;> rfl
@[simp] theorem exec_pitCtlLatch (low : BitVec 4) :
    exec (pitCtlLatch k low) s = .next (s.onChannel k Channel.latch) := by cases k <;> rfl
@[simp] theorem exec_pitCtlSetMode (m : PitMode) (rw : Access) :
    exec (pitCtlSetMode m k rw) s = .next (s.onChannel k (·.setMode m rw)) := by cases m <;> rfl

end

end Sys2Proof.Machine
end

section
/-!
PROOFS. The statements of 42_pit that one instruction of the PIT settles, each from the rules of the section before it.
-/
namespace Sys2Proof.Machine

/-- Settles O38: the facts about `eff`, `half` and `T`, in order. -/
theorem reloadsAndTicks : Obligations.ReloadsAndTicks :=
  ⟨fun r => ⟨eff_pos r, eff_le r, eff_eq_65536_iff r, eff_of_ne_zero⟩, half_bounds, ticksAt_floor,
    fun _ _ _ => ticksAt_sub_split, rfl, rfl⟩

/-- Settles O45: both writes are starts of a count given as a number. -/
theorem oneByteCountStartsTheChannel : Obligations.OneByteCountStartsTheChannel := by
  rintro s k v _ rfl
  constructor
  · rw [exec_pitWriteLo, State.onChannel, Channel.writeLo_eq]
  · rw [exec_pitWriteHi, State.onChannel, Channel.writeHi_eq]

/-- Settles O46: the low byte only stores, the high byte starts the completed count. -/
theorem twoByteCountBytes : Obligations.TwoByteCountBytes := by
  rintro s k v _ rfl
  constructor
  · rw [exec_pitWriteLohiLow, State.onChannel, Channel.writeLow_eq]
  · rw [exec_pitWriteLohiHigh, State.onChannel, Channel.writeHigh_eq]

/-- Settles O48: the latch command by whether a snapshot is held; the mode-setting word is the record the rule gives. -/
theorem latchAndModeWords : Obligations.LatchAndModeWords := by
  rintro s k _ rfl
  refine ⟨fun low => ?latch, fun m rw => ?setMode⟩
  case latch => rw [exec_pitCtlLatch, State.onChannel, Channel.latch_eq]
  case setMode => rw [exec_pitCtlSetMode, State.onChannel, Channel.setMode]

/-- Settles O50: which byte a read returns, and where the cursor goes, is told by `Channel.readsHigh`. -/
theorem dataPortReads : Obligations.DataPortReads := by
  rintro s k _ rfl
  refine ⟨_, Channel.readsHigh_iff _, ?latched, ?live⟩
  case latched => rw [exec_pitReadLatched, State.readChannel, Channel.readLatched_eq]
  case live => rw [exec_pitReadLive, State.readChannel, Channel.readLive_eq]

/-- Settles O52: the edge latch that `Pit.poll` answers with is the only one it clears. -/
theorem pitPollTakesTheEdge : Obligations.PitPollTakesTheEdge := by
  intro s
  exact ⟨_, exec_hostPitPollIrq s, rfl, rfl, rfl, rfl⟩

end Sys2Proof.Machine
end

section
/-!
PROOFS. The rules of 43_cmos_rtc on the fixed bytes (R251), the status bytes as numbers (R247 to R249), the periodic
rates and the boundaries of a period (R260, R263), the sources as propositions (R261, R262), and the poll (R264).
-/
namespace Sys2Proof.Machine

/-! ## The fixed bytes (43_cmos_rtc R251, 10_state R55) -/

theorem Rom.rising_tail {a : Host.Cell} {r : Rom} (h : Rom.rising (a :: r) = true) : Rom.rising r = true := by
  cases r with
  | nil => rfl
  | cons b rest =>
    rw [Rom.rising, Bool.and_eq_true] at h
    exact h.2

/-- In a rising table the first index is below every other, not only below the next. -/
theorem Rom.head_lt_of_rising {a : Host.Cell} {r : Rom} (h : Rom.rising (a :: r) = true) : ∀ c ∈ r, a.1 < c.1 := by
  induction r generalizing a with
  | nil => simp
  | cons b rest ih =>
    have hab : a.1 < b.1 := by
      rw [Rom.rising, Bool.and_eq_true, decide_eq_true_eq] at h
      exact h.1
    intro c hc
    obtain rfl | hc := List.mem_cons.1 hc
    · exact hab
    · exact hab.trans (ih (Rom.rising_tail h) c hc)

theorem Rom.rising_of_wf {r : Rom} (h : Rom.wf r = true) : Rom.rising r = true := by
  rw [Rom.wf, Bool.and_eq_true] at h
  exact h.1

theorem romRead_cons (c : Host.Cell) (r : Rom) (n : Nat) :
    romRead (c :: r) n = if c.1 = n then c.2 else romRead r n := rfl

/-- A rising table lists an index once, so the byte listed is the byte read. -/
theorem romRead_of_mem {r : Rom} {n : Nat} {b : Byte} (hr : Rom.rising r = true) (hmem : (n, b) ∈ r) :
    romRead r n = b := by
  induction r with
  | nil => cases hmem
  | cons c rest ih =>
    rw [romRead_cons]
    obtain rfl | hrest := List.mem_cons.1 hmem
    · exact if_pos rfl
    · have hne : c.1 ≠ n := (Rom.head_lt_of_rising hr _ hrest).ne
      rw [if_neg hne]
      exact ih (Rom.rising_tail hr) hrest

theorem romRead_of_not_mem {r : Rom} {n : Nat} (h : ∀ b : Byte, (n, b) ∉ r) : romRead r n = 0x00#8 := by
  induction r with
  | nil => rfl
  | cons c rest ih =>
    have hne : c.1 ≠ n := by
      rintro rfl
      exact h c.2 List.mem_cons_self
    rw [romRead_cons, if_neg hne]
    exact ih fun b hb => h b (List.mem_cons_of_mem c hb)

theorem exec_cmosReadFixed (s : State) : exec .cmosReadFixed s =
    .next { s with ret := .byte (romRead s.params.cmosRom s.cmos.index.toNat) } := rfl

/-! ## The status bytes as numbers (43_cmos_rtc R247 to R249) -/

/-- Bit 7, UIP, reads 0. -/
theorem statusA_eq (c : Cmos) : statusA c = BitVec.ofNat 8 c.rega.toNat := by
  rw [BitVec.ofNat_toNat, statusA, BitVec.setWidth_eq_append (by decide : 7 ≤ 8)]
  rfl

/-- The flags of status B stand at different bits, so putting them together adds their weights. -/
theorem flags_statusB : ∀ pie aie uie dm h24 : Bool,
    flagAt pie 6 ||| flagAt aie 5 ||| flagAt uie 4 ||| flagAt dm 2 ||| flagAt h24 1 =
      BitVec.ofNat 8 (pie.toNat * 64 + aie.toNat * 32 + uie.toNat * 16 + dm.toNat * 4 + h24.toNat * 2) := by
  decide

theorem statusB_eq (c : Cmos) : statusB c = BitVec.ofNat 8
    (c.pie.toNat * 64 + c.aie.toNat * 32 + c.uie.toNat * 16 + c.binary.toNat * 4 + c.h24.toNat * 2) :=
  flags_statusB c.pie c.aie c.uie c.binary c.h24

/-- The flags of status C stand at different bits, so putting them together adds their weights. -/
theorem flags_statusC : ∀ irqf pf af uf : Bool,
    flagAt irqf 7 ||| flagAt pf 6 ||| flagAt af 5 ||| flagAt uf 4 =
      BitVec.ofNat 8 (irqf.toNat * 128 + pf.toNat * 64 + af.toNat * 32 + uf.toNat * 16) := by
  decide

theorem statusC_eq (c : Cmos) : statusC c = BitVec.ofNat 8
    (c.irqf.toNat * 128 + c.pf.toNat * 64 + c.af.toNat * 32 + c.uf.toNat * 16) :=
  flags_statusC c.irqf c.pf c.af c.uf

/-- With the three flags clear no source can raise IRQF, whatever is enabled. -/
@[simp] theorem Cmos.irqf_clearFlags (c : Cmos) : c.clearFlags.irqf = false := by
  simp [Cmos.irqf]

@[simp] theorem statusC_clearFlags (c : Cmos) : statusC c.clearFlags = 0x00#8 := by
  simp [statusC_eq]

theorem exec_cmosReadStatusC (s : State) : exec .cmosReadStatusC s =
    .next { s with cmos := s.cmos.clearFlags, ret := .byte (statusC s.cmos) } := rfl

/-! ## Periods (43_cmos_rtc R260, R263) -/

/-- From RS = 3 on the rate is a power of two, which RS - 1 more doublings bring to 32768 Hz. -/
theorem periodicRate_mul_two_pow {rs : BitVec 4} (h : 3 ≤ rs.toNat) :
    periodicRate rs * 2 ^ (rs.toNat - 1) = 32768 := by
  have hlt : rs.toNat < 16 := rs.isLt
  have h0 : rs ≠ 0#4 := by rintro rfl; exact absurd h (by decide)
  have h1 : rs ≠ 1#4 := by rintro rfl; exact absurd h (by decide)
  have h2 : rs ≠ 2#4 := by rintro rfl; exact absurd h (by decide)
  have hdvd : 2 ^ (rs.toNat - 1) ∣ 2 ^ 15 := pow_dvd_pow 2 (by omega)
  rw [periodicRate, if_neg h0, if_neg h1, if_neg h2, Nat.shiftRight_eq_div_pow]
  exact Nat.div_mul_cancel hdvd

/-- RS is the stored byte of status register A modulo 16. -/
theorem Cmos.rate_eq (c : Cmos) : c.rate = periodicRate (BitVec.ofNat 4 c.rega.toNat) :=
  congrArg (fun n => periodicRate (BitVec.ofNat 4 n)) (Nat.shiftRight_zero (n := c.rega.toNat))

/-- The quotient rises from `a` to `b` exactly when a multiple of the divisor lies in `(a, b]`. -/
theorem div_lt_div_iff_exists_multiple {a b d : Nat} (hd : 0 < d) :
    a / d < b / d ↔ ∃ k : Nat, a < k * d ∧ k * d ≤ b := by
  constructor
  · intro h
    exact ⟨b / d, (Nat.div_lt_iff_lt_mul hd).1 h, Nat.div_mul_le_self b d⟩
  · rintro ⟨k, hak, hkb⟩
    calc a / d < k := (Nat.div_lt_iff_lt_mul hd).2 hak
      _ ≤ b / d := (Nat.le_div_iff_mul_le hd).2 hkb

/-- The guards of the source, a rate and a later time, are implied: without them the quotient does not rise. -/
theorem Cmos.periodDue_iff (c : Cmos) (m : Nat) :
    c.periodDue m = true ↔ c.lastMono * c.rate / 1000000000 < m * c.rate / 1000000000 := by
  simp only [Cmos.periodDue, Bool.and_eq_true, decide_eq_true_eq]
  refine ⟨fun ⟨_, hrise⟩ => hrise, fun hrise => ⟨?_, hrise⟩⟩
  have hmul : c.lastMono * c.rate < m * c.rate := lt_of_not_ge fun h => hrise.not_ge (Nat.div_le_div_right h)
  exact ⟨Nat.pos_of_lt_mul_left hmul, Nat.lt_of_mul_lt_mul_right hmul⟩

/-! ## The sources and the poll (43_cmos_rtc R261, R262, R264) -/

theorem Cmos.updated_eq_decide (c : Cmos) (w : Wall) : c.updated w = decide (w ≠ c.lastWall) := by
  simp [Cmos.updated, bne, beq_eq_decide]

theorem alarmField_eq_true_iff (a x : Byte) : alarmField a x = true ↔ 0xC0 ≤ a.toNat ∨ a = x := by
  rw [alarmField, Bool.or_eq_true, decide_eq_true_eq, beq_iff_eq]

theorem Cmos.alarmMatches_iff (c : Cmos) (w : Wall) : c.alarmMatches w = true ↔
    (0xC0 ≤ c.alarmS.toNat ∨ c.alarmS = enc c.binary w.sec) ∧
    (0xC0 ≤ c.alarmM.toNat ∨ c.alarmM = enc c.binary w.min) ∧
    (0xC0 ≤ c.alarmH.toNat ∨ c.alarmH = encHour c.binary c.h24 w.hour) := by
  simp only [Cmos.alarmMatches, Bool.and_eq_true, alarmField_eq_true_iff, and_assoc]

/-- The alarm source: the clock was updated, and each alarm byte matches its field. -/
theorem Cmos.alarmDue_eq_decide (c : Cmos) (w : Wall) : (c.updated w && c.alarmMatches w) =
    decide (w ≠ c.lastWall ∧
      (0xC0 ≤ c.alarmS.toNat ∨ c.alarmS = enc c.binary w.sec) ∧
      (0xC0 ≤ c.alarmM.toNat ∨ c.alarmM = enc c.binary w.min) ∧
      (0xC0 ≤ c.alarmH.toNat ∨ c.alarmH = encHour c.binary c.h24 w.hour)) := by
  rw [Bool.eq_iff_iff, Bool.and_eq_true, Cmos.updated_eq_decide, decide_eq_true_eq, decide_eq_true_eq,
    Cmos.alarmMatches_iff]

/-- The time of the last poll never goes back. -/
theorem Cmos.sample_lastMono_eq_max (c : Cmos) (w : Wall) (m : Nat) :
    (c.sample w m).lastMono = max c.lastMono m := (max_def_lt _ _).symm

theorem exec_hostCmosPollIrq (s : State) : exec .hostCmosPollIrq s =
    .next { s with cmos := (s.cmos.poll s.inp.wall s.inp.mono).2
                   ret := .asserted (s.cmos.poll s.inp.wall s.inp.mono).1 } := rfl

end Sys2Proof.Machine
end

section
/-!
PROOFS. The statements of 43_cmos_rtc that one instruction of the CMOS settles, each from the rules of the section
before it.
-/
namespace Sys2Proof.Machine

/-- Settles O55: the status bytes are numbers, and the fixed byte is found by whether the table lists the index. -/
theorem storedRegisterReads : Obligations.StoredRegisterReads := by
  intro s
  refine ⟨rfl, rfl, rfl, ?statusA, ?statusB, rfl, exec_cmosReadFixed s, ?listed, ?unlisted⟩
  case statusA => rw [← statusA_eq]; rfl
  case statusB => rw [← statusB_eq]; rfl
  case listed =>
    intro b hwf hmem
    rw [exec_cmosReadFixed, romRead_of_mem (Rom.rising_of_wf hwf) hmem]
  case unlisted =>
    intro hnone
    rw [exec_cmosReadFixed, romRead_of_not_mem hnone]

/-- Settles O59: the periodic source fires when the quotient by the period rises, so when a multiple is passed. -/
theorem periodicSourceFiresOnABoundary : Obligations.PeriodicSourceFiresOnABoundary := by
  refine ⟨⟨rfl, rfl, rfl, fun rs h => periodicRate_mul_two_pow h⟩, fun c m => ?_⟩
  rw [Cmos.periodDue_iff, Cmos.rate_eq]
  exact div_lt_div_iff_exists_multiple (by decide)

/-- Settles O60: the new register file is the sample with IRQF on the line, and the sources are read as propositions. -/
theorem cmosPollRaisesOnRisingIrqf : Obligations.CmosPollRaisesOnRisingIrqf := by
  intro s
  refine ⟨_, exec_hostCmosPollIrq s, rfl, ?cmos, rfl⟩
  rw [← Cmos.alarmDue_eq_decide, ← Cmos.updated_eq_decide,
    ← Cmos.sample_lastMono_eq_max s.cmos s.inp.wall s.inp.mono]
  rfl

/-- Settles O54: each meaning is the record the rule gives. -/
theorem timeFieldReads : Obligations.TimeFieldReads := by
  intro s
  exact ⟨rfl, rfl, rfl, rfl, rfl, rfl, rfl, rfl⟩

/-- Settles O56: the first read clears every flag, so the second finds the flags that `clearFlags` leaves. -/
theorem statusCReadClearsTheFlags : Obligations.StatusCReadClearsTheFlags := by
  intro s
  refine ⟨_, _, exec_cmosReadStatusC s, ?first, exec_cmosReadStatusC _, ?second⟩
  case first => rw [statusC_eq]; rfl
  case second => exact congrArg Ret.byte (statusC_clearFlags s.cmos)

/-- Settles O57: each meaning is the record the rule gives. -/
theorem cmosWrites : Obligations.CmosWrites := by
  intro s
  exact ⟨fun _ _ => rfl, fun _ => ⟨rfl, rfl, rfl, rfl, rfl⟩, fun _ _ => rfl, fun _ _ _ _ _ _ _ _ => rfl⟩

end Sys2Proof.Machine
end

section
/-!
PROOFS. The layouts of 30_encoding taken apart and put together: the fields of a command byte, the word of an access,
and what the decoder does at each port.
-/
namespace Sys2Proof

open Sys2Proof.Machine

/-! ## Words (30_encoding R90) -/

/-- A word whose direction bit is 1 is the word of the write of its byte to its port. -/
theorem writeWord_port_byte {w : AccessWord} (h : AccessWord.isWrite w = true) :
    writeWord (AccessWord.port w) (AccessWord.byte w) = w := by
  apply BitVec.eq_of_getLsbD_eq
  intro k hk
  rw [getLsbD_writeWord, AccessWord.byte, AccessWord.port, BitVec.getLsbD_extractLsb', BitVec.getLsbD_extractLsb']
  by_cases h8 : k < 8
  · simp [h8]
  · by_cases h24 : k - 8 < 16
    · have hk8 : 8 + (k - 8) = k := by omega
      simp [h8, h24, hk8]
    · obtain rfl : k = 24 := by omega
      simpa [AccessWord.isWrite] using h.symm

/-- A word whose direction bit is 0 differs from the word of the read of its port in its byte only. -/
theorem readWord_port {w : AccessWord} (h : AccessWord.isWrite w = false) :
    readWord (AccessWord.port w) = w &&& 0x1FFFF00#25 := by
  apply BitVec.eq_of_getLsbD_eq
  intro k hk
  have hmask : ∀ j : Fin 25, (0x1FFFF00#25).getLsbD j.val = decide (8 ≤ j.val) := by decide
  rw [getLsbD_readWord, BitVec.getLsbD_and, hmask ⟨k, hk⟩, AccessWord.port, BitVec.getLsbD_extractLsb']
  by_cases h8 : k < 8
  · have hk8 : ¬ 8 ≤ k := by omega
    simp [h8, hk8]
  · by_cases h24 : k - 8 < 16
    · have hk8 : 8 + (k - 8) = k := by omega
      have h8' : 8 ≤ k := by omega
      simp [h8, h24, hk8, h8']
    · obtain rfl : k = 24 := by omega
      simpa [AccessWord.isWrite] using h.symm

/-! ## Command bytes (30_encoding R92 to R95, R99) -/

theorem icw1_fields : ∀ v : Byte, v.getLsbD 4 = true →
    v.extractLsb' 5 3 ++ 1#1 ++ bit1 (v.getLsbD 3) ++ bit1 (v.getLsbD 2) ++ bit1 (v.getLsbD 1) ++
      bit1 (v.getLsbD 0) = v := by decide

theorem ocw3_fields : ∀ v : Byte, v.getLsbD 4 = false → v.getLsbD 3 = true →
    bit1 (v.getLsbD 7) ++ bit1 (v.getLsbD 6) ++ bit1 (v.getLsbD 5) ++ 0b01#2 ++ bit1 (v.getLsbD 2) ++
      bit1 (v.getLsbD 1) ++ bit1 (v.getLsbD 0) = v := by decide

theorem ocw2_fields : ∀ v : Byte, v.getLsbD 4 = false → v.getLsbD 3 = false →
    v.extractLsb' 5 3 ++ 0b00#2 ++ v.extractLsb' 0 3 = v := by decide

theorem icw4_fields : ∀ v : Byte,
    v.extractLsb' 5 3 ++ bit1 (v.getLsbD 4) ++ bit1 (v.getLsbD 3) ++ bit1 (v.getLsbD 2) ++ bit1 (v.getLsbD 1) ++
      bit1 (v.getLsbD 0) = v := by decide

theorem decodePicCommand_icw1 : ∀ (a7 : BitVec 3) (ltim adi sngl ic4 : Bool),
    decodePicCommand (a7 ++ 1#1 ++ bit1 ltim ++ bit1 adi ++ bit1 sngl ++ bit1 ic4) =
      .picIcw1 a7 ltim adi sngl ic4 := by decide

theorem decodePicCommand_ocw3 : ∀ b7 esmm smm p rr ris : Bool,
    decodePicCommand (bit1 b7 ++ bit1 esmm ++ bit1 smm ++ 0b01#2 ++ bit1 p ++ bit1 rr ++ bit1 ris) =
      .picOcw3 b7 esmm smm p rr ris := by decide

theorem decodePicCommand_ocw2 : ∀ cmd l : BitVec 3,
    decodePicCommand (cmd ++ 0b00#2 ++ l) = decodeOcw2 cmd l := by decide

theorem decodePicData_icw4 : ∀ (b75 : BitVec 3) (sfnm buf ms aeoi upm : Bool),
    decodePicData .waitIcw4 (b75 ++ bit1 sfnm ++ bit1 buf ++ bit1 ms ++ bit1 aeoi ++ bit1 upm) =
      .picIcw4 b75 sfnm buf ms aeoi upm := by decide

/-- The word of an OCW2 row carries its command and its IRQ field. -/
theorem encode_decodeOcw2 : ∀ cmd l : BitVec 3,
    encode (decodeOcw2 cmd l) = some (writeWord 0x20#16 (cmd ++ 0b00#2 ++ l)) := by decide

/-! ## Control words (30_encoding R102 to R105) -/

theorem PitChan.toBits_of_ofBits {sc : BitVec 2} {k : PitChan} (h : PitChan.ofBits sc = some k) : k.toBits = sc := by
  revert sc
  cases k <;> decide

theorem PitChan.ofBits_eq_none : ∀ sc : BitVec 2, PitChan.ofBits sc = none → sc = 0b11#2 := by decide

theorem Access.toBits_of_ofBits {rw : BitVec 2} {a : Access} (h : Access.ofBits rw = some a) : a.toBits = rw := by
  revert rw
  cases a <;> decide

theorem Access.ofBits_eq_none : ∀ rw : BitVec 2, Access.ofBits rw = none → rw = 0b00#2 := by decide

theorem channel_fields : ∀ v : Byte, v.extractLsb' 6 2 ++ v.extractLsb' 0 6 = v := by decide

theorem latch_fields : ∀ v : Byte, v.extractLsb' 6 2 ++ v.extractLsb' 4 2 ++ v.extractLsb' 0 4 = v := by decide

theorem mode_fields : ∀ v : Byte,
    v.extractLsb' 6 2 ++ v.extractLsb' 4 2 ++ v.extractLsb' 1 3 ++ bit1 (v.getLsbD 0) = v := by decide

theorem decodePitControl_badChannel : ∀ low : BitVec 6,
    decodePitControl (0b11#2 ++ low) = .pitCtlBadChannel low := by decide

theorem decodePitControl_latch (k : PitChan) (low : BitVec 4) :
    decodePitControl (k.toBits ++ 0b00#2 ++ low) = pitCtlLatch k low := by
  revert low
  cases k <;> decide

theorem decodePitControl_bcd (k : PitChan) (rw : Access) (m : BitVec 3) :
    decodePitControl (k.toBits ++ rw.toBits ++ m ++ 1#1) = .pitCtlBcd k rw m := by
  revert m
  cases k <;> cases rw <;> decide

theorem decodePitControl_mode (k : PitChan) (rw : Access) (m : BitVec 3) :
    decodePitControl (k.toBits ++ rw.toBits ++ m ++ 0#1) = decodePitMode k rw m := by
  revert m
  cases k <;> cases rw <;> decide

/-- The mode codes that no mode-setting row has are the rejected ones. -/
theorem decodePitMode_of_bad {m : BitVec 3} (h : badModeCode m = true) (k : PitChan) (rw : Access) :
    decodePitMode k rw m = .pitCtlBadMode k rw m := by
  revert m
  cases k <;> cases rw <;> decide

/-! ## Contexts, one channel at a time (30_encoding R91, R106) -/

/-- The context of channel k. -/
def Ctx.chan (c : Ctx) : PitChan → ChanCtx
  | .ch0 => c.ch0
  | .ch1 => c.ch1
  | .ch2 => c.ch2

/-- The row of a byte written to a data port (42_pit R189), for the three channels at once. -/
def dataWrite (k : PitChan) (c : ChanCtx) (v : Byte) : Instr :=
  match c.access, c.cursor with
  | .lo, _ => pitWriteLo k v
  | .hi, _ => pitWriteHi k v
  | .lohi, .low => pitWriteLohiLow k v
  | .lohi, .high => pitWriteLohiHigh k v

theorem dataWrite_of_lo {c : ChanCtx} (h : c.writesLo = true) (k : PitChan) (v : Byte) :
    dataWrite k c v = pitWriteLo k v := by
  have ha : c.access = .lo := eq_of_beq h
  simp [dataWrite, ha]

theorem dataWrite_of_hi {c : ChanCtx} (h : c.writesHi = true) (k : PitChan) (v : Byte) :
    dataWrite k c v = pitWriteHi k v := by
  have ha : c.access = .hi := eq_of_beq h
  simp [dataWrite, ha]

theorem ChanCtx.writesLow_iff (c : ChanCtx) : c.writesLow = true ↔ c.access = .lohi ∧ c.cursor = .low := by
  simp [ChanCtx.writesLow]

theorem ChanCtx.writesHigh_iff (c : ChanCtx) : c.writesHigh = true ↔ c.access = .lohi ∧ c.cursor = .high := by
  simp [ChanCtx.writesHigh]

theorem dataWrite_of_low {c : ChanCtx} (h : c.writesLow = true) (k : PitChan) (v : Byte) :
    dataWrite k c v = pitWriteLohiLow k v := by
  obtain ⟨ha, hc⟩ := c.writesLow_iff.1 h
  simp [dataWrite, ha, hc]

theorem dataWrite_of_high {c : ChanCtx} (h : c.writesHigh = true) (k : PitChan) (v : Byte) :
    dataWrite k c v = pitWriteLohiHigh k v := by
  obtain ⟨ha, hc⟩ := c.writesHigh_iff.1 h
  simp [dataWrite, ha, hc]

/-- The row of a read of a data port (42_pit R195), for the three channels at once. -/
def dataRead (k : PitChan) (c : ChanCtx) : Instr := if c.latchLeft = 0 then pitReadLive k else pitReadLatched k

theorem dataRead_of_zero {c : ChanCtx} (h : c.latchLeft = 0) (k : PitChan) : dataRead k c = pitReadLive k := if_pos h

theorem dataRead_of_pos {c : ChanCtx} (h : 0 < c.latchLeft) (k : PitChan) : dataRead k c = pitReadLatched k :=
  if_neg h.ne'

/-! ## What the decoder does at each port (20_memory R71, 30_encoding R118) -/

section

variable (c : Ctx) (v : Byte)

@[simp] theorem decodeWrite_picCommand : decodeWrite c 0x20#16 v = .ok (decodePicCommand v) := rfl
@[simp] theorem decodeWrite_picData : decodeWrite c 0x21#16 v = .ok (decodePicData c.init v) := rfl
@[simp] theorem decodeWrite_pitControl : decodeWrite c 0x43#16 v = .ok (decodePitControl v) := rfl
@[simp] theorem decodeWrite_cmosIndex :
    decodeWrite c 0x70#16 v = .ok (.cmosIndexWrite (v.getLsbD 7) (v.extractLsb' 0 7)) := rfl
@[simp] theorem decodeWrite_cmosData : decodeWrite c 0x71#16 v = .ok (decodeCmosWrite c.index v) := rfl

@[simp] theorem decodeWrite_dataPort (k : PitChan) :
    decodeWrite c (dataPort k) v = .ok (dataWrite k (c.chan k) v) := by
  cases k <;> rfl

@[simp] theorem decodeRead_dataPort (k : PitChan) : decodeRead c (dataPort k) = .ok (dataRead k (c.chan k)) := by
  cases k <;> rfl

@[simp] theorem decodeRead_cmosData : decodeRead c 0x71#16 = .ok (decodeCmosRead c.index) := rfl

end

/-! ## Rows of the CMOS data port (43_cmos_rtc R232, R251, R252, R259) -/

theorem decodeCmosRead_fixed {n : BitVec 7} (h : romIndex n.toNat = true) : decodeCmosRead n = .cmosReadFixed := by
  revert n
  decide

theorem decodeCmosWrite_statusA : ∀ (uip : Bool) (rega : BitVec 7),
    decodeCmosWrite 0x0A#7 (bit1 uip ++ rega) = .cmosWriteStatusA uip rega := by decide

theorem decodeCmosWrite_statusB : ∀ set pie aie uie sqwe dm h24 dse : Bool,
    decodeCmosWrite 0x0B#7
      (bit1 set ++ bit1 pie ++ bit1 aie ++ bit1 uie ++ bit1 sqwe ++ bit1 dm ++ bit1 h24 ++ bit1 dse) =
      .cmosWriteStatusB set pie aie uie sqwe dm h24 dse := by decide

theorem statusA_fields : ∀ v : Byte, bit1 (v.getLsbD 7) ++ v.extractLsb' 0 7 = v := by decide

theorem statusB_fields : ∀ v : Byte,
    bit1 (v.getLsbD 7) ++ bit1 (v.getLsbD 6) ++ bit1 (v.getLsbD 5) ++ bit1 (v.getLsbD 4) ++ bit1 (v.getLsbD 3) ++
      bit1 (v.getLsbD 2) ++ bit1 (v.getLsbD 1) ++ bit1 (v.getLsbD 0) = v := by decide

end Sys2Proof
end

section
/-!
PROOFS. The decoder takes back what the encoder gives (30_encoding R90 to R118): the rows of each port, and the
statement over all of them.
-/
namespace Sys2Proof

open Sys2Proof.Machine

/-- In every context that selects the row, the access word of the instruction decodes to it. -/
def Instr.Decodes (i : Instr) : Prop :=
  ∀ (c : Ctx) (w : AccessWord), i.wf = true → c.selects i = true → encode i = some w → decode c w = .ok i

theorem Instr.Decodes.of_write {i : Instr} {p : Port} {v : Byte} (henc : encode i = some (writeWord p v))
    (h : ∀ c : Ctx, i.wf = true → c.selects i = true → decodeWrite c p v = .ok i) : i.Decodes := by
  intro c w hwf hsel hw
  obtain rfl : writeWord p v = w := Option.some.inj (henc.symm.trans hw)
  rw [decode_writeWord]
  exact h c hwf hsel

theorem Instr.Decodes.of_read {i : Instr} {p : Port} (henc : encode i = some (readWord p))
    (h : ∀ c : Ctx, c.selects i = true → decodeRead c p = .ok i) : i.Decodes := by
  intro c w _ hsel hw
  obtain rfl : readWord p = w := Option.some.inj (henc.symm.trans hw)
  rw [decode_readWord]
  exact h c hsel

/-- A host call has no word (30_encoding R90). -/
theorem Instr.Decodes.of_noWord {i : Instr} (henc : encode i = none) : i.Decodes :=
  fun _ _ _ _ hw => absurd (henc.symm.trans hw) nofun

/-! ## Rows of one port -/

theorem decodes_picCommand {i : Instr} {v : Byte} (henc : encode i = some (writeWord 0x20#16 v))
    (h : decodePicCommand v = i) : i.Decodes :=
  .of_write henc fun _ _ _ => congrArg Except.ok h

theorem decodes_ocw2 (cmd l : BitVec 3) : (decodeOcw2 cmd l).Decodes :=
  decodes_picCommand (encode_decodeOcw2 cmd l) (decodePicCommand_ocw2 cmd l)

/-- A row of 0x21 is selected by the word the PIC waits for (30_encoding R96). -/
theorem decodes_picData {i : Instr} {v : Byte} (init : InitState) (henc : encode i = some (writeWord 0x21#16 v))
    (hsel : ∀ c : Ctx, c.selects i = (c.init == init)) (h : decodePicData init v = i) : i.Decodes := by
  refine .of_write henc fun c _ hc => ?_
  have hinit : c.init = init := eq_of_beq (hsel c ▸ hc)
  rw [decodeWrite_picData, hinit, h]

theorem decodes_pitControl {i : Instr} {v : Byte} (henc : encode i = some (writeWord 0x43#16 v))
    (h : i.wf = true → decodePitControl v = i) : i.Decodes :=
  .of_write henc fun _ hwf _ => congrArg Except.ok (h hwf)

/-- A row of a data port is selected by the channel's context. -/
theorem decodes_dataWrite {i : Instr} (k : PitChan) (v : Byte) (henc : encode i = some (writeWord (dataPort k) v))
    (h : ∀ c : Ctx, c.selects i = true → dataWrite k (c.chan k) v = i) : i.Decodes :=
  .of_write henc fun c _ hsel => (decodeWrite_dataPort c v k).trans (congrArg Except.ok (h c hsel))

theorem decodes_pitWriteLo (k : PitChan) (v : Byte) : (pitWriteLo k v).Decodes :=
  decodes_dataWrite k v (by cases k <;> rfl) fun _ h => dataWrite_of_lo (by cases k <;> exact h) k v

theorem decodes_pitWriteHi (k : PitChan) (v : Byte) : (pitWriteHi k v).Decodes :=
  decodes_dataWrite k v (by cases k <;> rfl) fun _ h => dataWrite_of_hi (by cases k <;> exact h) k v

theorem decodes_pitWriteLohiLow (k : PitChan) (v : Byte) : (pitWriteLohiLow k v).Decodes :=
  decodes_dataWrite k v (by cases k <;> rfl) fun _ h => dataWrite_of_low (by cases k <;> exact h) k v

theorem decodes_pitWriteLohiHigh (k : PitChan) (v : Byte) : (pitWriteLohiHigh k v).Decodes :=
  decodes_dataWrite k v (by cases k <;> rfl) fun _ h => dataWrite_of_high (by cases k <;> exact h) k v

theorem decodes_dataRead {i : Instr} (k : PitChan) (henc : encode i = some (readWord (dataPort k)))
    (h : ∀ c : Ctx, c.selects i = true → dataRead k (c.chan k) = i) : i.Decodes :=
  .of_read henc fun c hsel => (decodeRead_dataPort c k).trans (congrArg Except.ok (h c hsel))

theorem decodes_pitReadLatched (k : PitChan) : (pitReadLatched k).Decodes :=
  decodes_dataRead k (by cases k <;> rfl) fun _ h =>
    dataRead_of_pos (by cases k <;> exact of_decide_eq_true h) k

theorem decodes_pitReadLive (k : PitChan) : (pitReadLive k).Decodes :=
  decodes_dataRead k (by cases k <;> rfl) fun _ h =>
    dataRead_of_zero (by cases k <;> exact of_decide_eq_true h) k

/-- A row of 0x71 that one index selects (43_cmos_rtc R232). -/
theorem decodes_cmosRead {i : Instr} (n : BitVec 7) (henc : encode i = some (readWord 0x71#16))
    (hsel : ∀ c : Ctx, c.selects i = (c.index == n)) (h : decodeCmosRead n = i) : i.Decodes := by
  refine .of_read henc fun c hc => ?_
  have hn : c.index = n := eq_of_beq (hsel c ▸ hc)
  rw [decodeRead_cmosData, hn, h]

/-- A row of 0x71 that one index selects (43_cmos_rtc R252). -/
theorem decodes_cmosWrite {i : Instr} {v : Byte} (n : BitVec 7) (henc : encode i = some (writeWord 0x71#16 v))
    (hsel : ∀ c : Ctx, c.selects i = (c.index == n)) (h : decodeCmosWrite n v = i) : i.Decodes := by
  refine .of_write henc fun c _ hc => ?_
  have hn : c.index = n := eq_of_beq (hsel c ▸ hc)
  rw [decodeWrite_cmosData, hn, h]

theorem Ctx.selects_cmosWriteStatusCd (c : Ctx) (v : Byte) :
    c.selects (.cmosWriteStatusCd v) = (c.index == 0x0C#7 || c.index == 0x0D#7) := rfl

theorem Ctx.selects_cmosWriteOther (c : Ctx) (v : Byte) : c.selects (.cmosWriteOther v) =
    !(c.index == 0x01#7 || c.index == 0x03#7 || c.index == 0x05#7 || c.index == 0x0A#7 || c.index == 0x0B#7 ||
      c.index == 0x0C#7 || c.index == 0x0D#7) := rfl

theorem decodes_cmosWriteStatusCd (v : Byte) : (Instr.cmosWriteStatusCd v).Decodes := by
  refine .of_write (p := 0x71#16) (v := v) rfl fun c _ hsel => ?_
  have hn : c.index = 0x0C#7 ∨ c.index = 0x0D#7 := by
    simpa [Ctx.selects_cmosWriteStatusCd] using hsel
  rw [decodeWrite_cmosData]
  obtain hn | hn := hn <;> rw [hn] <;> rfl

theorem decodes_cmosWriteOther (v : Byte) : (Instr.cmosWriteOther v).Decodes := by
  refine .of_write (p := 0x71#16) (v := v) rfl fun c _ hsel => ?_
  simp only [Ctx.selects_cmosWriteOther, Bool.not_eq_true', Bool.or_eq_false_iff, beq_eq_false_iff_ne] at hsel
  rw [decodeWrite_cmosData]
  simp [decodeCmosWrite, hsel]

theorem decodes_cmosIndexWrite (b7 : Bool) (n : BitVec 7) : (Instr.cmosIndexWrite b7 n).Decodes := by
  have hfields : ∀ (b7 : Bool) (n : BitVec 7),
      (bit1 b7 ++ n).getLsbD 7 = b7 ∧ (bit1 b7 ++ n).extractLsb' 0 7 = n := by decide
  refine .of_write (p := 0x70#16) rfl fun c _ _ => ?_
  rw [decodeWrite_cmosIndex, (hfields b7 n).1, (hfields b7 n).2]

/-- Settles O1, row by row: each row is of one port, and its context, if it has one, is what selects it there. -/
theorem decodeOfEncodeIsTheInstruction : Obligations.DecodeOfEncodeIsTheInstruction := by
  intro i
  show i.Decodes
  cases i with
  | picIcw1 a7 ltim adi sngl ic4 => exact decodes_picCommand rfl (decodePicCommand_icw1 a7 ltim adi sngl ic4)
  | picOcw2ClearRotateAeoi l => exact decodes_ocw2 0#3 l
  | picOcw2NonspecificEoi l => exact decodes_ocw2 1#3 l
  | picOcw2Nop l => exact decodes_ocw2 2#3 l
  | picOcw2SpecificEoi l => exact decodes_ocw2 3#3 l
  | picOcw2SetRotateAeoi l => exact decodes_ocw2 4#3 l
  | picOcw2RotateNonspecificEoi l => exact decodes_ocw2 5#3 l
  | picOcw2SetPriority l => exact decodes_ocw2 6#3 l
  | picOcw2RotateSpecificEoi l => exact decodes_ocw2 7#3 l
  | picOcw3 b7 esmm smm p rr ris => exact decodes_picCommand rfl (decodePicCommand_ocw3 b7 esmm smm p rr ris)
  | picIcw2 v => exact decodes_picData .waitIcw2 rfl (fun _ => rfl) rfl
  | picIcw3 v => exact decodes_picData .waitIcw3 rfl (fun _ => rfl) rfl
  | picIcw4 b75 sfnm buf ms aeoi upm =>
    exact decodes_picData .waitIcw4 rfl (fun _ => rfl) (decodePicData_icw4 b75 sfnm buf ms aeoi upm)
  | picOcw1 v => exact decodes_picData .idle rfl (fun _ => rfl) rfl
  | picReadStatus => exact .of_read rfl fun _ _ => rfl
  | picReadImr => exact .of_read rfl fun _ _ => rfl
  | pitCtlBadChannel low => exact decodes_pitControl rfl fun _ => decodePitControl_badChannel low
  | pitCtlLatchCh0 low => exact decodes_pitControl rfl fun _ => decodePitControl_latch .ch0 low
  | pitCtlLatchCh1 low => exact decodes_pitControl rfl fun _ => decodePitControl_latch .ch1 low
  | pitCtlLatchCh2 low => exact decodes_pitControl rfl fun _ => decodePitControl_latch .ch2 low
  | pitCtlBcd k rw m => exact decodes_pitControl rfl fun _ => decodePitControl_bcd k rw m
  | pitCtlSetMode0 k rw => exact decodes_pitControl rfl fun _ => decodePitControl_mode k rw 0b000#3
  | pitCtlSetMode2 k rw => exact decodes_pitControl rfl fun _ => decodePitControl_mode k rw 0b010#3
  | pitCtlSetMode3 k rw => exact decodes_pitControl rfl fun _ => decodePitControl_mode k rw 0b011#3
  | pitCtlBadMode k rw m =>
    exact decodes_pitControl rfl fun hwf => (decodePitControl_mode k rw m).trans (decodePitMode_of_bad hwf k rw)
  | pitCh0WriteLo v => exact decodes_pitWriteLo .ch0 v
  | pitCh0WriteHi v => exact decodes_pitWriteHi .ch0 v
  | pitCh0WriteLohiLow v => exact decodes_pitWriteLohiLow .ch0 v
  | pitCh0WriteLohiHigh v => exact decodes_pitWriteLohiHigh .ch0 v
  | pitCh0ReadLatched => exact decodes_pitReadLatched .ch0
  | pitCh0ReadLive => exact decodes_pitReadLive .ch0
  | pitCh1WriteLo v => exact decodes_pitWriteLo .ch1 v
  | pitCh1WriteHi v => exact decodes_pitWriteHi .ch1 v
  | pitCh1WriteLohiLow v => exact decodes_pitWriteLohiLow .ch1 v
  | pitCh1WriteLohiHigh v => exact decodes_pitWriteLohiHigh .ch1 v
  | pitCh1ReadLatched => exact decodes_pitReadLatched .ch1
  | pitCh1ReadLive => exact decodes_pitReadLive .ch1
  | pitCh2WriteLo v => exact decodes_pitWriteLo .ch2 v
  | pitCh2WriteHi v => exact decodes_pitWriteHi .ch2 v
  | pitCh2WriteLohiLow v => exact decodes_pitWriteLohiLow .ch2 v
  | pitCh2WriteLohiHigh v => exact decodes_pitWriteLohiHigh .ch2 v
  | pitCh2ReadLatched => exact decodes_pitReadLatched .ch2
  | pitCh2ReadLive => exact decodes_pitReadLive .ch2
  | pitCtlRead => exact .of_read rfl fun _ _ => rfl
  | cmosIndexWrite b7 n => exact decodes_cmosIndexWrite b7 n
  | cmosIndexRead => exact .of_read rfl fun _ _ => rfl
  | cmosReadSeconds => exact decodes_cmosRead 0x00#7 rfl (fun _ => rfl) rfl
  | cmosReadAlarmSeconds => exact decodes_cmosRead 0x01#7 rfl (fun _ => rfl) rfl
  | cmosReadMinutes => exact decodes_cmosRead 0x02#7 rfl (fun _ => rfl) rfl
  | cmosReadAlarmMinutes => exact decodes_cmosRead 0x03#7 rfl (fun _ => rfl) rfl
  | cmosReadHours => exact decodes_cmosRead 0x04#7 rfl (fun _ => rfl) rfl
  | cmosReadAlarmHours => exact decodes_cmosRead 0x05#7 rfl (fun _ => rfl) rfl
  | cmosReadWeekday => exact decodes_cmosRead 0x06#7 rfl (fun _ => rfl) rfl
  | cmosReadDay => exact decodes_cmosRead 0x07#7 rfl (fun _ => rfl) rfl
  | cmosReadMonth => exact decodes_cmosRead 0x08#7 rfl (fun _ => rfl) rfl
  | cmosReadYear => exact decodes_cmosRead 0x09#7 rfl (fun _ => rfl) rfl
  | cmosReadStatusA => exact decodes_cmosRead 0x0A#7 rfl (fun _ => rfl) rfl
  | cmosReadStatusB => exact decodes_cmosRead 0x0B#7 rfl (fun _ => rfl) rfl
  | cmosReadStatusC => exact decodes_cmosRead 0x0C#7 rfl (fun _ => rfl) rfl
  | cmosReadStatusD => exact decodes_cmosRead 0x0D#7 rfl (fun _ => rfl) rfl
  | cmosReadCentury => exact decodes_cmosRead 0x32#7 rfl (fun _ => rfl) rfl
  | cmosReadFixed => exact .of_read rfl fun _ h => congrArg Except.ok (decodeCmosRead_fixed h)
  | cmosWriteAlarmSeconds v => exact decodes_cmosWrite 0x01#7 rfl (fun _ => rfl) rfl
  | cmosWriteAlarmMinutes v => exact decodes_cmosWrite 0x03#7 rfl (fun _ => rfl) rfl
  | cmosWriteAlarmHours v => exact decodes_cmosWrite 0x05#7 rfl (fun _ => rfl) rfl
  | cmosWriteStatusA uip rega => exact decodes_cmosWrite 0x0A#7 rfl (fun _ => rfl) (decodeCmosWrite_statusA uip rega)
  | cmosWriteStatusB set pie aie uie sqwe dm h24 dse =>
    exact decodes_cmosWrite 0x0B#7 rfl (fun _ => rfl) (decodeCmosWrite_statusB set pie aie uie sqwe dm h24 dse)
  | cmosWriteStatusCd v => exact decodes_cmosWriteStatusCd v
  | cmosWriteOther v => exact decodes_cmosWriteOther v
  | hostPollAttachedDevices => exact .of_noWord rfl
  | hostPollResolve => exact .of_noWord rfl
  | hostPollGrant _ => exact .of_noWord rfl
  | hostPushIrq _ => exact .of_noWord rfl
  | hostAttach _ _ => exact .of_noWord rfl
  | hostPitPollIrq => exact .of_noWord rfl
  | hostCmosPollIrq => exact .of_noWord rfl

end Sys2Proof
end

section
/-!
PROOFS. The encoder gives back what the decoder takes (30_encoding R90 to R118), and the decoder takes the words of the
eight ports of 20_memory R71.
-/
namespace Sys2Proof

open Sys2Proof.Machine

/-- The instruction is well formed, is the row the context selects, and has this access word. -/
def Instr.Encodes (c : Ctx) (w : AccessWord) (i : Instr) : Prop :=
  i.wf = true ∧ c.selects i = true ∧ encode i = some w

section

variable (c : Ctx) (v : Byte)

theorem encodes_decodeOcw2 (cmd l : BitVec 3) :
    (decodeOcw2 cmd l).Encodes c (writeWord 0x20#16 (cmd ++ 0b00#2 ++ l)) := by
  refine ⟨?wf, ?selects, encode_decodeOcw2 cmd l⟩
  case wf => revert cmd l; decide
  case selects =>
    unfold decodeOcw2
    repeat' split
    all_goals rfl

theorem encodes_decodePicCommand : (decodePicCommand v).Encodes c (writeWord 0x20#16 v) := by
  unfold decodePicCommand
  split
  next h4 => exact ⟨rfl, rfl, congrArg (some <| writeWord 0x20#16 ·) (icw1_fields v h4)⟩
  next h4 =>
    rw [Bool.not_eq_true] at h4
    split
    next h3 => exact ⟨rfl, rfl, congrArg (some <| writeWord 0x20#16 ·) (ocw3_fields v h4 h3)⟩
    next h3 =>
      have h := encodes_decodeOcw2 c (v.extractLsb' 5 3) (v.extractLsb' 0 3)
      rwa [ocw2_fields v h4 (eq_false_of_ne_true h3)] at h

theorem encodes_decodePicData : (decodePicData c.init v).Encodes c (writeWord 0x21#16 v) := by
  cases h : c.init with
  | idle => exact ⟨rfl, beq_iff_eq.2 h, rfl⟩
  | waitIcw2 => exact ⟨rfl, beq_iff_eq.2 h, rfl⟩
  | waitIcw3 => exact ⟨rfl, beq_iff_eq.2 h, rfl⟩
  | waitIcw4 => exact ⟨rfl, beq_iff_eq.2 h, congrArg (some <| writeWord 0x21#16 ·) (icw4_fields v)⟩

theorem encodes_dataWrite (k : PitChan) : (dataWrite k (c.chan k) v).Encodes c (writeWord (dataPort k) v) := by
  unfold dataWrite
  split
  next ha => cases k <;> exact ⟨rfl, beq_iff_eq.2 ha, rfl⟩
  next ha => cases k <;> exact ⟨rfl, beq_iff_eq.2 ha, rfl⟩
  next ha hc => cases k <;> exact ⟨rfl, (ChanCtx.writesLow_iff _).2 ⟨ha, hc⟩, rfl⟩
  next ha hc => cases k <;> exact ⟨rfl, (ChanCtx.writesHigh_iff _).2 ⟨ha, hc⟩, rfl⟩

theorem encodes_dataRead (k : PitChan) : (dataRead k (c.chan k)).Encodes c (readWord (dataPort k)) := by
  unfold dataRead
  split
  next h => cases k <;> exact ⟨rfl, decide_eq_true h, rfl⟩
  next h => cases k <;> exact ⟨rfl, decide_eq_true (Nat.pos_of_ne_zero h), rfl⟩

theorem encodes_latchInstr (k : PitChan) (low : BitVec 4) :
    (latchInstr k low).Encodes c (writeWord 0x43#16 (k.toBits ++ 0b00#2 ++ low)) := by
  cases k <;> exact ⟨rfl, rfl, rfl⟩

theorem badModeCode_of_ne {m : BitVec 3} (h0 : m ≠ 0b000#3) (h2 : m ≠ 0b010#3) (h3 : m ≠ 0b011#3) :
    badModeCode m = true := by
  revert m
  decide

theorem encodes_decodePitMode (k : PitChan) (rw : Access) (m : BitVec 3) :
    (decodePitMode k rw m).Encodes c (writeWord 0x43#16 (k.toBits ++ rw.toBits ++ m ++ 0#1)) := by
  unfold decodePitMode
  split_ifs with h0 h2 h3
  · subst h0; exact ⟨rfl, rfl, rfl⟩
  · subst h2; exact ⟨rfl, rfl, rfl⟩
  · subst h3; exact ⟨rfl, rfl, rfl⟩
  · exact ⟨badModeCode_of_ne h0 h2 h3, rfl, rfl⟩

theorem encodes_decodePitControl : (decodePitControl v).Encodes c (writeWord 0x43#16 v) := by
  unfold decodePitControl
  split
  next hsc =>
    have hv := channel_fields v
    rw [PitChan.ofBits_eq_none _ hsc] at hv
    exact ⟨rfl, rfl, congrArg (some <| writeWord 0x43#16 ·) hv⟩
  next k hsc =>
    split
    next hrw =>
      have hv := latch_fields v
      rw [← PitChan.toBits_of_ofBits hsc, Access.ofBits_eq_none _ hrw] at hv
      have h := encodes_latchInstr c k (v.extractLsb' 0 4)
      rwa [hv] at h
    next rw hrw =>
      have hv := mode_fields v
      rw [← PitChan.toBits_of_ofBits hsc, ← Access.toBits_of_ofBits hrw] at hv
      split
      next h0 =>
        rw [h0] at hv
        exact ⟨rfl, rfl, congrArg (some <| writeWord 0x43#16 ·) hv⟩
      next h0 =>
        rw [eq_false_of_ne_true h0] at hv
        have h := encodes_decodePitMode c k rw (v.extractLsb' 1 3)
        rwa [show (0#1 : BitVec 1) = bit1 false from rfl, hv] at h

theorem encodes_decodeCmosWrite : (decodeCmosWrite c.index v).Encodes c (writeWord 0x71#16 v) := by
  unfold decodeCmosWrite
  split_ifs with h1 h3 h5 hA hB hC hD
  · exact ⟨rfl, beq_iff_eq.2 h1, rfl⟩
  · exact ⟨rfl, beq_iff_eq.2 h3, rfl⟩
  · exact ⟨rfl, beq_iff_eq.2 h5, rfl⟩
  · exact ⟨rfl, beq_iff_eq.2 hA, congrArg (some <| writeWord 0x71#16 ·) (statusA_fields v)⟩
  · exact ⟨rfl, beq_iff_eq.2 hB, congrArg (some <| writeWord 0x71#16 ·) (statusB_fields v)⟩
  · exact ⟨rfl, by simp [Ctx.selects_cmosWriteStatusCd, hC], rfl⟩
  · exact ⟨rfl, by simp [Ctx.selects_cmosWriteStatusCd, hD], rfl⟩
  · exact ⟨rfl, by simp [Ctx.selects_cmosWriteOther, h1, h3, h5, hA, hB, hC, hD], rfl⟩

end

theorem romIndex_of_decodeCmosRead {n : BitVec 7} (h : decodeCmosRead n = .cmosReadFixed) :
    romIndex n.toNat = true := by
  revert n
  decide

/-- One row of a table of indices: it has the word, or the rest of the table decides. -/
theorem Instr.Encodes.ite {c : Ctx} {w : AccessWord} {p : Prop} [Decidable p] {i j : Instr}
    (hi : p → i.Encodes c w) (hj : ¬ p → j.Encodes c w) : (if p then i else j).Encodes c w := by
  by_cases h : p
  · rw [if_pos h]; exact hi h
  · rw [if_neg h]; exact hj h

theorem encodes_decodeCmosRead (c : Ctx) : (decodeCmosRead c.index).Encodes c (readWord 0x71#16) := by
  unfold decodeCmosRead
  iterate 15 refine .ite (fun h => ⟨rfl, beq_iff_eq.2 h, rfl⟩) fun _ => ?_
  exact ⟨rfl, romIndex_of_decodeCmosRead (by simp only [decodeCmosRead, *, if_false]), rfl⟩

/-- The eight ports of the block (20_memory R71). -/
def blockPorts : List Port := [0x20#16, 0x21#16, 0x40#16, 0x41#16, 0x42#16, 0x43#16, 0x70#16, 0x71#16]

theorem not_mem_blockPorts {p : Port} (h : p ∉ blockPorts) :
    p ≠ 0x20#16 ∧ p ≠ 0x21#16 ∧ p ≠ 0x40#16 ∧ p ≠ 0x41#16 ∧ p ≠ 0x42#16 ∧ p ≠ 0x43#16 ∧ p ≠ 0x70#16 ∧
      p ≠ 0x71#16 := by
  simpa [blockPorts] using h

/-- At every other port a word is rejected by the port's number, a written one and a read one. -/
theorem decodeWrite_of_not_mem {p : Port} (h : p ∉ blockPorts) (c : Ctx) (v : Byte) :
    decodeWrite c p v = .error (.noRegister p) := by
  simp only [decodeWrite, not_mem_blockPorts h, if_false]

theorem decodeRead_of_not_mem {p : Port} (h : p ∉ blockPorts) (c : Ctx) :
    decodeRead c p = .error (.noRegister p) := by
  simp only [decodeRead, not_mem_blockPorts h, if_false]

/-- At the eight ports every word is taken, and the row it is taken for has that word. -/
theorem decodeWrite_of_mem {p : Port} (h : p ∈ blockPorts) (c : Ctx) (v : Byte) :
    ∃ i, decodeWrite c p v = .ok i ∧ i.Encodes c (writeWord p v) := by
  simp only [blockPorts, List.mem_cons, List.not_mem_nil, or_false] at h
  obtain rfl | rfl | rfl | rfl | rfl | rfl | rfl | rfl := h
  · exact ⟨_, decodeWrite_picCommand c v, encodes_decodePicCommand c v⟩
  · exact ⟨_, decodeWrite_picData c v, encodes_decodePicData c v⟩
  · exact ⟨_, decodeWrite_dataPort c v .ch0, encodes_dataWrite c v .ch0⟩
  · exact ⟨_, decodeWrite_dataPort c v .ch1, encodes_dataWrite c v .ch1⟩
  · exact ⟨_, decodeWrite_dataPort c v .ch2, encodes_dataWrite c v .ch2⟩
  · exact ⟨_, decodeWrite_pitControl c v, encodes_decodePitControl c v⟩
  · exact ⟨_, decodeWrite_cmosIndex c v, rfl, rfl, congrArg (some <| writeWord 0x70#16 ·) (statusA_fields v)⟩
  · exact ⟨_, decodeWrite_cmosData c v, encodes_decodeCmosWrite c v⟩

theorem decodeRead_of_mem {p : Port} (h : p ∈ blockPorts) (c : Ctx) :
    ∃ i, decodeRead c p = .ok i ∧ i.Encodes c (readWord p) := by
  simp only [blockPorts, List.mem_cons, List.not_mem_nil, or_false] at h
  obtain rfl | rfl | rfl | rfl | rfl | rfl | rfl | rfl := h
  · exact ⟨_, rfl, rfl, rfl, rfl⟩
  · exact ⟨_, rfl, rfl, rfl, rfl⟩
  · exact ⟨_, decodeRead_dataPort c .ch0, encodes_dataRead c .ch0⟩
  · exact ⟨_, decodeRead_dataPort c .ch1, encodes_dataRead c .ch1⟩
  · exact ⟨_, decodeRead_dataPort c .ch2, encodes_dataRead c .ch2⟩
  · exact ⟨_, rfl, rfl, rfl, rfl⟩
  · exact ⟨_, rfl, rfl, rfl, rfl⟩
  · exact ⟨_, decodeRead_cmosData c, encodes_decodeCmosRead c⟩

/-- The word the encoder gives back: of a read, w[7:0] is 0 (30_encoding R90). -/
def AccessWord.canonical (w : AccessWord) : AccessWord := if w.getLsbD 24 = true then w else w &&& 0x1FFFF00#25

/-- Everything the decoder can answer, by whether the port is one of the eight. -/
theorem decode_cases (c : Ctx) (w : AccessWord) :
    (AccessWord.port w ∈ blockPorts ∧ ∃ i, decode c w = .ok i ∧ i.Encodes c (AccessWord.canonical w)) ∨
    (AccessWord.port w ∉ blockPorts ∧ decode c w = .error (.noRegister (AccessWord.port w))) := by
  cases hdir : AccessWord.isWrite w with
  | true =>
    have hw : AccessWord.canonical w = writeWord (AccessWord.port w) (AccessWord.byte w) :=
      (if_pos hdir).trans (writeWord_port_byte hdir).symm
    have hdec : decode c w = decodeWrite c (AccessWord.port w) (AccessWord.byte w) := if_pos hdir
    rw [hw, hdec]
    by_cases hp : AccessWord.port w ∈ blockPorts
    · exact .inl ⟨hp, decodeWrite_of_mem hp c _⟩
    · exact .inr ⟨hp, decodeWrite_of_not_mem hp c _⟩
  | false =>
    have hw : AccessWord.canonical w = readWord (AccessWord.port w) :=
      (if_neg (ne_true_of_eq_false hdir)).trans (readWord_port hdir).symm
    have hdec : decode c w = decodeRead c (AccessWord.port w) := if_neg (ne_true_of_eq_false hdir)
    rw [hw, hdec]
    by_cases hp : AccessWord.port w ∈ blockPorts
    · exact .inl ⟨hp, decodeRead_of_mem hp c⟩
    · exact .inr ⟨hp, decodeRead_of_not_mem hp c⟩

/-- Settles O2: what the decoder answers is the row of one of the eight ports, and that row has the word. -/
theorem encodeOfDecodeIsTheWord : Obligations.EncodeOfDecodeIsTheWord := by
  intro c w i hi
  obtain ⟨-, j, hj, hwf, hsel, henc⟩ | ⟨-, herr⟩ := decode_cases c w
  · obtain rfl : j = i := Except.ok.inj (hj.symm.trans hi)
    exact ⟨hwf, hsel, henc⟩
  · exact absurd (herr.symm.trans hi) nofun

/-- Settles O3, by the two cases of the port. -/
theorem decoderAnswersExactlyTheEightPorts : Obligations.DecoderAnswersExactlyTheEightPorts := by
  intro c w
  obtain ⟨hp, j, hj, -⟩ | ⟨hp, herr⟩ := decode_cases c w
  · exact ⟨⟨fun _ => hp, fun _ => ⟨j, hj⟩⟩, fun r hr => absurd (hj.symm.trans hr) nofun⟩
  · refine ⟨⟨fun ⟨i, hi⟩ => absurd (herr.symm.trans hi) nofun, fun h => absurd h hp⟩, fun r hr => ?_⟩
    exact (Except.error.inj (herr.symm.trans hr)).symm

/-- Settles O4: each word is the encoding of its row, and the row is the one its context selects (O1). -/
theorem vectorWordsDecode : Obligations.VectorWordsDecode :=
  have h := decodeOfEncodeIsTheInstruction
  ⟨h _ _ _ rfl rfl rfl, h _ _ _ rfl rfl rfl, h _ _ _ rfl rfl rfl, h _ _ _ rfl rfl rfl, h _ _ _ rfl rfl rfl,
    h _ _ _ rfl rfl rfl, h _ _ _ rfl rfl rfl, h _ _ _ rfl rfl rfl, h _ _ _ rfl rfl rfl⟩

end Sys2Proof
end

section
/-!
PROOFS. Counting in 42_pit: one tick (R184), many ticks, and that the closed form of the fold is that many ticks (R185).
-/
namespace Sys2Proof.Machine

/-! ## Crossings (42_pit R181, R185) -/

/-- The half is crossed on the way from `a` to `b` or on the way from `b` to `c`, not on both. -/
theorem crossesHalf_split (n : Nat) {a b c : Nat} (hab : b ≤ a) (hbc : c ≤ b) :
    crossesHalf n a c = (crossesHalf n a b ^^ crossesHalf n b c) := by
  obtain hb | hb := Nat.lt_or_ge (half n) b
  · have ha : half n < a := by omega
    have hb' : ¬ b ≤ half n := by omega
    simp [crossesHalf, ha, hb, hb']
  · have hc : c ≤ half n := by omega
    have hb' : ¬ half n < b := by omega
    simp [crossesHalf, hb, hb', hc]

/-- A whole cycle crosses the half once on its way to zero. -/
theorem crossesHalf_cycle {n : Nat} (hn : 1 ≤ n) : crossesHalf n n 0 = true := by
  have hh : half n < n := by unfold half; omega
  simp [crossesHalf, hh]

theorem crossesHalf_self (n a : Nat) : crossesHalf n a a = false := by
  simp only [crossesHalf, Bool.and_eq_false_iff, decide_eq_false_iff_not]
  omega

/-- What mode 3 makes of the output on the way from `a` down to `b`; the other modes leave it (42_pit R184). -/
def Channel.outAfter (c : Channel) (a b : Nat) : Bool :=
  if c.mode = .mode3 && crossesHalf (eff c.reload) a b then !c.out else c.out

theorem Channel.outAfter_of_ne {c : Channel} (h : c.mode ≠ .mode3) (a b : Nat) : c.outAfter a b = c.out := by
  simp [Channel.outAfter, h]

theorem Channel.outAfter_of_mode3 {c : Channel} (h : c.mode = .mode3) (a b : Nat) :
    c.outAfter a b = (c.out ^^ crossesHalf (eff c.reload) a b) := by
  cases hx : crossesHalf (eff c.reload) a b <;> simp [Channel.outAfter, h, hx]

theorem Channel.mode_cases (c : Channel) : c.mode = .mode0 ∨ c.mode = .mode2 ∨ c.mode = .mode3 := by
  cases c.mode with
  | mode0 => exact .inl rfl
  | mode2 => exact .inr (.inl rfl)
  | mode3 => exact .inr (.inr rfl)

/-! ## One tick (42_pit R184) -/

theorem Channel.tick1_of_stopped {c : Channel} (h : c.running = false) : c.tick1 = c := by
  simp [Channel.tick1, h]

/-- A tick that does not end the count. -/
theorem Channel.tick1_of_two_le {c : Channel} (hr : c.running = true) (h : 2 ≤ c.cur) :
    c.tick1 = { c with cur := c.cur - 1, out := c.outAfter c.cur (c.cur - 1) } := by
  have hne : c.cur - 1 ≠ 0 := by omega
  simp [Channel.tick1, Channel.outAfter, hr, hne]

/-- The tick that ends a mode-0 count. -/
theorem Channel.tick1_end_mode0 {c : Channel} (hr : c.running = true) (h : c.cur = 1) (hm : c.mode = .mode0) :
    c.tick1 = { c with edge := true, out := true, running := false, cur := 0 } := by
  simp [Channel.tick1, hr, h, hm]

/-- The tick that reloads a mode-2 count. -/
theorem Channel.tick1_end_mode2 {c : Channel} (hr : c.running = true) (h : c.cur = 1) (hm : c.mode = .mode2) :
    c.tick1 = { c with edge := true, cur := eff c.reload } := by
  simp [Channel.tick1, hr, h, hm]

/-- The tick that reloads a mode-3 count. -/
theorem Channel.tick1_end_mode3 {c : Channel} (hr : c.running = true) (h : c.cur = 1) (hm : c.mode = .mode3) :
    c.tick1 = { c with edge := true, out := !(c.outAfter 1 0), cur := eff c.reload } := by
  simp [Channel.tick1, Channel.outAfter, hr, h, hm]

/-! ## The fold in its cases (42_pit R185) -/

theorem Channel.fold_of_stopped {c : Channel} (h : c.running = false) (k : Nat) : c.fold k = c := by
  simp [Channel.fold, h]

theorem Channel.fold_of_lt {c : Channel} {k : Nat} (hr : c.running = true) (h : k < c.cur) :
    c.fold k = { c with cur := c.cur - k, out := c.outAfter c.cur (c.cur - k) } := by
  simp [Channel.fold, Channel.outAfter, hr, h]

theorem Channel.fold_end_mode0 {c : Channel} {k : Nat} (hr : c.running = true) (h : c.cur ≤ k) (hm : c.mode = .mode0) :
    c.fold k = { c with cur := 0, running := false, out := true, edge := true } := by
  simp [Channel.fold, hr, Nat.not_lt.2 h, hm]

theorem Channel.fold_end_mode2 {c : Channel} {k : Nat} (hr : c.running = true) (h : c.cur ≤ k) (hm : c.mode = .mode2) :
    c.fold k = { c with cur := countAfter (eff c.reload) c.cur k, edge := true } := by
  simp [Channel.fold, hr, Nat.not_lt.2 h, hm]

theorem Channel.fold_end_mode3 {c : Channel} {k : Nat} (hr : c.running = true) (h : c.cur ≤ k) (hm : c.mode = .mode3) :
    c.fold k = { c with
      cur := countAfter (eff c.reload) c.cur k
      out := (c.out ^^ crossesHalf (eff c.reload) c.cur 0) ^^
        (true ^^ crossesHalf (eff c.reload) (eff c.reload) (countAfter (eff c.reload) c.cur k))
      edge := true } := by
  simp [Channel.fold, hr, Nat.not_lt.2 h, hm]

/-! ## The count after its crossing (42_pit R185) -/

/-- Only the ticks beyond the crossing count. -/
theorem countAfter_succ {n c k : Nat} (hc : 1 ≤ c) : countAfter n c (k + 1) = countAfter n (c - 1) k := by
  have h : k + 1 - c = k - (c - 1) := by omega
  rw [countAfter, countAfter, h]

/-- Within the first cycle after the crossing the counter goes down from the reload. -/
theorem countAfter_one_of_lt {n k : Nat} (h : k < n) : countAfter n 1 (k + 1) = n - k := by
  rw [countAfter, Nat.add_sub_cancel, Nat.mod_eq_of_lt h]

/-- A whole cycle later the counter is where it was. -/
theorem countAfter_one_of_le {n k : Nat} (h : n ≤ k) : countAfter n 1 (k + 1) = countAfter n n k := by
  rw [countAfter, countAfter, Nat.add_sub_cancel, ← Nat.mod_eq_sub_mod h]

theorem countAfter_bounds {n : Nat} (hn : 1 ≤ n) (c k : Nat) : 1 ≤ countAfter n c k ∧ countAfter n c k ≤ n := by
  have h : (k - c) % n < n := Nat.mod_lt _ hn
  rw [countAfter]
  omega

/-! ## The fold is that many ticks (42_pit R185) -/

/-- 10_state R46: a running channel has at least one tick left. -/
def Channel.Ticking (c : Channel) : Prop := c.running = true → 1 ≤ c.cur

theorem Channel.fold_zero {c : Channel} (h : c.Ticking) : c.fold 0 = c := by
  cases hr : c.running with
  | false => exact Channel.fold_of_stopped hr 0
  | true =>
    rw [Channel.fold_of_lt hr (h hr), Nat.sub_zero, Channel.outAfter, crossesHalf_self]
    simp

theorem Channel.tick1_ticking {c : Channel} (h : c.Ticking) : c.tick1.Ticking := by
  cases hr : c.running with
  | false => rwa [Channel.tick1_of_stopped hr]
  | true =>
    obtain h1 | h2 : c.cur = 1 ∨ 2 ≤ c.cur := by have := h hr; omega
    · cases hm : c.mode with
      | mode0 => rw [Channel.tick1_end_mode0 hr h1 hm]; exact nofun
      | mode2 => rw [Channel.tick1_end_mode2 hr h1 hm]; exact fun _ => eff_pos _
      | mode3 => rw [Channel.tick1_end_mode3 hr h1 hm]; exact fun _ => eff_pos _
    · rw [Channel.tick1_of_two_le hr h2]
      intro _
      dsimp only
      omega

/-- The toggles of a way down add up over any stop on it. -/
theorem Channel.outAfter_outAfter (c : Channel) (x : Nat) {a b d : Nat} (hab : b ≤ a) (hbd : d ≤ b) :
    ({ c with cur := x, out := c.outAfter a b } : Channel).outAfter b d = c.outAfter a d := by
  by_cases hm : c.mode = .mode3
  · rw [Channel.outAfter_of_mode3 hm, Channel.outAfter_of_mode3 hm, Channel.outAfter_of_mode3 (by exact hm),
      crossesHalf_split _ hab hbd, Bool.xor_assoc]
  · rw [Channel.outAfter_of_ne hm, Channel.outAfter_of_ne hm, Channel.outAfter_of_ne (by exact hm)]

/-- A tick that does not end the count is one tick of the fold. -/
theorem Channel.fold_succ_of_two_le {c : Channel} (hr : c.running = true) (h2 : 2 ≤ c.cur) (k : Nat) :
    c.fold (k + 1) = c.tick1.fold k := by
  rw [Channel.tick1_of_two_le hr h2]
  obtain hk | hk := Nat.lt_or_ge k (c.cur - 1)
  · have hk1 : k + 1 < c.cur := by omega
    have hcur : c.cur - (k + 1) = c.cur - 1 - k := by omega
    rw [Channel.fold_of_lt hr hk1, Channel.fold_of_lt (by exact hr) (by exact hk), hcur,
      Channel.outAfter_outAfter c _ (Nat.sub_le _ _) (Nat.sub_le _ _)]
  · have hk1 : c.cur ≤ k + 1 := by omega
    have hcount := countAfter_succ (n := eff c.reload) (k := k) (Nat.le_of_succ_le h2)
    obtain hm | hm | hm := c.mode_cases
    · rw [Channel.fold_end_mode0 hr hk1 hm, Channel.fold_end_mode0 (by exact hr) (by exact hk) (by exact hm)]
    · rw [Channel.fold_end_mode2 hr hk1 hm, Channel.fold_end_mode2 (by exact hr) (by exact hk) (by exact hm), hcount,
        Channel.outAfter_of_ne (by rw [hm]; exact nofun)]
    · rw [Channel.fold_end_mode3 hr hk1 hm, Channel.fold_end_mode3 (by exact hr) (by exact hk) (by exact hm), hcount,
        Channel.outAfter_of_mode3 hm, crossesHalf_split _ (Nat.sub_le c.cur 1) (Nat.zero_le _), ← Bool.xor_assoc c.out]

/-- After the tick that reloads, the counter stands where the fold of one tick more has it. -/
theorem Channel.fold_succ_of_one {c : Channel} (hr : c.running = true) (h1 : c.cur = 1) (k : Nat) :
    c.fold (k + 1) = c.tick1.fold k := by
  have hk1 : c.cur ≤ k + 1 := by omega
  have hn := eff_pos c.reload
  obtain hm | hm | hm := c.mode_cases
  · rw [Channel.fold_end_mode0 hr hk1 hm, Channel.tick1_end_mode0 hr h1 hm, Channel.fold_of_stopped rfl]
  · rw [Channel.fold_end_mode2 hr hk1 hm, Channel.tick1_end_mode2 hr h1 hm, h1]
    obtain hk | hk := Nat.lt_or_ge k (eff c.reload)
    · rw [Channel.fold_of_lt (by exact hr) (by exact hk), countAfter_one_of_lt hk,
        Channel.outAfter_of_ne (by dsimp only; rw [hm]; exact nofun)]
    · rw [Channel.fold_end_mode2 (by exact hr) (by exact hk) (by exact hm), countAfter_one_of_le hk]
  · rw [Channel.fold_end_mode3 hr hk1 hm, Channel.tick1_end_mode3 hr h1 hm, Channel.outAfter_of_mode3 hm, h1]
    obtain hk | hk := Nat.lt_or_ge k (eff c.reload)
    · rw [Channel.fold_of_lt (by exact hr) (by exact hk), countAfter_one_of_lt hk,
        Channel.outAfter_of_mode3 (by exact hm)]
      simp
    · rw [Channel.fold_end_mode3 (by exact hr) (by exact hk) (by exact hm), countAfter_one_of_le hk]
      simp [crossesHalf_cycle hn]

/-- One tick and then a fold is the fold of one tick more. -/
theorem Channel.fold_succ {c : Channel} (h : c.Ticking) (k : Nat) : c.fold (k + 1) = c.tick1.fold k := by
  cases hr : c.running with
  | false => rw [Channel.tick1_of_stopped hr, Channel.fold_of_stopped hr, Channel.fold_of_stopped hr]
  | true =>
    obtain h1 | h2 : c.cur = 1 ∨ 2 ≤ c.cur := by have := h hr; omega
    · exact Channel.fold_succ_of_one hr h1 k
    · exact Channel.fold_succ_of_two_le hr h2 k

theorem Channel.fold_eq_ticks {c : Channel} (h : c.Ticking) (n : Nat) : c.fold n = c.ticks n := by
  induction n generalizing c with
  | zero => exact Channel.fold_zero h
  | succ n ih => rw [Channel.fold_succ h, ih (Channel.tick1_ticking h)]; rfl

theorem Channel.ticks_add (c : Channel) (m n : Nat) : c.ticks (m + n) = (c.ticks m).ticks n := by
  induction m generalizing c with
  | zero => rw [Nat.zero_add]; rfl
  | succ m ih => rw [Nat.succ_add]; exact ih c.tick1

theorem Channel.ticks_ticking {c : Channel} (h : c.Ticking) (n : Nat) : (c.ticks n).Ticking := by
  induction n generalizing c with
  | zero => exact h
  | succ n ih => exact ih (Channel.tick1_ticking h)

/-- Folding twice is folding once (42_pit R201). -/
theorem Channel.fold_fold {c : Channel} (h : c.Ticking) (m n : Nat) : (c.fold m).fold n = c.fold (m + n) := by
  rw [Channel.fold_eq_ticks h, Channel.fold_eq_ticks h, Channel.fold_eq_ticks (Channel.ticks_ticking h m),
    Channel.ticks_add]

/-- Settles O39: by induction on the ticks, one tick being one tick of the fold. -/
theorem foldIsThatManyTicks : Obligations.FoldIsThatManyTicks :=
  fun _ n h => Channel.fold_eq_ticks h n

end Sys2Proof.Machine
end

section
/-!
PROOFS. The statements of 42_pit about counting: the closed forms (R184, R185), one-shot and square wave (R200), and
reconciliation (R183, R201).
-/
namespace Sys2Proof.Machine

/-! ## The closed forms after n ticks (42_pit R184, R185) -/

section

variable {c : Channel} {n : Nat}

theorem Channel.ticking_of_pos (h : 1 ≤ c.cur) : c.Ticking := fun _ => h

theorem Channel.ticks_of_lt (hr : c.running = true) (h : n < c.cur) :
    c.ticks n = { c with cur := c.cur - n, out := c.outAfter c.cur (c.cur - n) } := by
  rw [← Channel.fold_eq_ticks (Channel.ticking_of_pos (Nat.one_le_of_lt h)), Channel.fold_of_lt hr h]

theorem Channel.ticks_end_mode0 (hr : c.running = true) (hpos : 1 ≤ c.cur) (h : c.cur ≤ n) (hm : c.mode = .mode0) :
    c.ticks n = { c with cur := 0, running := false, out := true, edge := true } := by
  rw [← Channel.fold_eq_ticks (Channel.ticking_of_pos hpos), Channel.fold_end_mode0 hr h hm]

/-- Past its crossing a count that reloads goes on from its reload, with its edge latch set. -/
theorem Channel.ticks_past (hr : c.running = true) (hpos : 1 ≤ c.cur) (h : c.cur ≤ n) (hm : c.mode ≠ .mode0) :
    (c.ticks n).cur = countAfter (eff c.reload) c.cur n ∧ (c.ticks n).edge = true ∧ (c.ticks n).running = true := by
  rw [← Channel.fold_eq_ticks (Channel.ticking_of_pos hpos)]
  obtain hm0 | hm2 | hm3 := c.mode_cases
  · exact absurd hm0 hm
  · rw [Channel.fold_end_mode2 hr h hm2]; exact ⟨rfl, rfl, hr⟩
  · rw [Channel.fold_end_mode3 hr h hm3]; exact ⟨rfl, rfl, hr⟩

/-- The rate generator's output is not moved (42_pit R184). -/
theorem Channel.ticks_out_mode2 (hr : c.running = true) (hpos : 1 ≤ c.cur) (hm : c.mode = .mode2) :
    (c.ticks n).out = c.out := by
  have hne : c.mode ≠ .mode3 := by rw [hm]; exact nofun
  obtain h | h := Nat.lt_or_ge n c.cur
  · rw [Channel.ticks_of_lt hr h]; exact Channel.outAfter_of_ne hne _ _
  · rw [← Channel.fold_eq_ticks (Channel.ticking_of_pos hpos), Channel.fold_end_mode2 hr h hm]

/-- Of a mode-3 count one tick toggles the output at the half, and once more at zero (42_pit R184). -/
theorem Channel.tick1_out_mode3 (hr : c.running = true) (hpos : 1 ≤ c.cur) (hm : c.mode = .mode3) :
    c.tick1.out = ((c.out ^^ crossesHalf (eff c.reload) c.cur (c.cur - 1)) ^^ decide (c.cur = 1)) := by
  obtain h1 | h2 : c.cur = 1 ∨ 2 ≤ c.cur := by omega
  · rw [Channel.tick1_end_mode3 hr h1 hm, Channel.outAfter_of_mode3 hm, h1]
    simp
  · have hne : c.cur ≠ 1 := by omega
    rw [Channel.tick1_of_two_le hr h2, Channel.outAfter_of_mode3 hm]
    simp [hne]

/-- A mode-3 count in step with its counter: high above the half, low from the half on (42_pit R185). -/
def Channel.InStep (c : Channel) : Prop :=
  c.running = true ∧ 1 ≤ c.cur ∧ c.cur ≤ eff c.reload ∧ c.mode = .mode3 ∧ c.out = decide (half (eff c.reload) < c.cur)

/-- Above the half, a way down leaves it exactly when it crosses the half. -/
theorem highAt_of_crossesHalf (n : Nat) {a b : Nat} (h : b ≤ a) :
    (decide (half n < a) ^^ crossesHalf n a b) = decide (half n < b) := by
  obtain hb | hb := Nat.lt_or_ge (half n) b
  · have ha : half n < a := by omega
    have hb' : ¬ b ≤ half n := by omega
    simp [crossesHalf, ha, hb, hb']
  · have hb' : ¬ half n < b := by omega
    simp [crossesHalf, hb, hb']

theorem Channel.tick1_inStep (h : c.InStep) : c.tick1.InStep := by
  obtain ⟨hr, hpos, hle, hm, hout⟩ := h
  have hn := eff_pos c.reload
  have hhalf : half (eff c.reload) < eff c.reload := by unfold half; omega
  have hnext := Channel.tick1_out_mode3 hr hpos hm
  obtain h1 | h2 : c.cur = 1 ∨ 2 ≤ c.cur := by omega
  · rw [Channel.tick1_end_mode3 hr h1 hm] at hnext ⊢
    refine ⟨hr, hn, le_rfl, hm, hnext.trans ?_⟩
    simp [hout, h1, crossesHalf, hhalf]
  · rw [Channel.tick1_of_two_le hr h2]
    refine ⟨hr, Nat.le_sub_one_of_lt h2, (Nat.sub_le _ _).trans hle, hm, ?_⟩
    rw [Channel.outAfter_of_mode3 hm, hout]
    exact highAt_of_crossesHalf _ (Nat.sub_le _ _)

theorem Channel.ticks_inStep (h : c.InStep) (n : Nat) : (c.ticks n).InStep := by
  induction n generalizing c with
  | zero => exact h
  | succ n ih => exact ih (Channel.tick1_inStep h)

theorem Channel.ticks_reload (h : c.Ticking) (n : Nat) : (c.ticks n).reload = c.reload := by
  rw [← Channel.fold_eq_ticks h, Channel.fold_eq]

/-- The wave of a count in step with its counter (42_pit R185). -/
theorem Channel.ticks_out_of_inStep (h : c.InStep) (n : Nat) :
    (c.ticks n).out = decide (half (eff c.reload) < (c.ticks n).cur) := by
  obtain ⟨-, -, -, -, hout⟩ := Channel.ticks_inStep h n
  obtain ⟨-, hpos, -, -, -⟩ := h
  rwa [Channel.ticks_reload (Channel.ticking_of_pos hpos)] at hout

end

/-- Settles O40, each clause by its closed form. -/
theorem ticksHaveTheClosedForms : Obligations.TicksHaveTheClosedForms := by
  intro c n hr hpos
  refine ⟨?before, ?past, Channel.ticks_out_mode2 hr hpos, ?toggles, ?inStep, ?ended⟩
  case before =>
    intro h
    rw [Channel.ticks_of_lt hr h]
    exact ⟨rfl, rfl, hr⟩
  case past => exact Channel.ticks_past hr hpos
  case toggles =>
    intro hm
    rw [Channel.tick1_out_mode3 hr hpos hm, crossesHalf, Bool.decide_and]
  case inStep =>
    intro hm hle hout
    exact Channel.ticks_out_of_inStep ⟨hr, hpos, hle, hm, hout⟩ n
  case ended =>
    intro h hm
    rw [Channel.ticks_end_mode0 hr hpos h hm]
    exact ⟨rfl, rfl, rfl, rfl⟩

/-! ## One-shot and square wave (42_pit R200) -/

/-- Settles O43: before its count the one-shot runs with its output low, from then on it is stopped. -/
theorem oneShotRisesOnceAtItsCount : Obligations.OneShotRisesOnceAtItsCount := by
  intro c n hm
  have hout : c.start.out = false := by simp [hm]
  obtain h | h := Nat.lt_or_ge n (eff c.reload)
  · have hne : c.start.mode ≠ .mode3 := by rw [Channel.start_mode, hm]; exact nofun
    rw [Channel.ticks_of_lt (c := c.start) rfl h, Channel.outAfter_of_ne hne, hout]
    simp [h]
  · rw [Channel.ticks_end_mode0 (c := c.start) rfl (eff_pos _) h hm]
    simp [h]

/-- A square wave starts in step with its counter: high, at its full count. -/
theorem Channel.start_inStep {c : Channel} (hm : c.mode = .mode3) : c.start.InStep := by
  have hn := eff_pos c.reload
  have hhalf : half (eff c.reload) < eff c.reload := by unfold half; omega
  refine ⟨rfl, hn, le_rfl, hm, ?_⟩
  simp [hm, hhalf]

/-- The counter of a count that reloads, n ticks after its start. -/
theorem Channel.ticks_start_cur {c : Channel} (hm : c.mode ≠ .mode0) (n : Nat) :
    (c.start.ticks n).cur = eff c.reload - n % eff c.reload := by
  obtain h | h := Nat.lt_or_ge n (eff c.reload)
  · rw [Channel.ticks_of_lt (c := c.start) rfl h, Nat.mod_eq_of_lt h]
    rfl
  · obtain ⟨hcur, -, -⟩ := Channel.ticks_past (c := c.start) rfl (eff_pos _) h hm
    rw [hcur, countAfter, Nat.mod_eq_sub_mod h]
    rfl

theorem Channel.ticks_start_out_mode3 {c : Channel} (hm : c.mode = .mode3) (n : Nat) :
    (c.start.ticks n).out = decide (half (eff c.reload) < eff c.reload - n % eff c.reload) := by
  have hne : c.mode ≠ .mode0 := by rw [hm]; exact nofun
  rw [Channel.ticks_out_of_inStep (Channel.start_inStep hm), Channel.ticks_start_cur hne]
  rfl

/-- The numbers below `n` that are below `m`. -/
theorem length_filter_range_lt {m n : Nat} (h : m ≤ n) : ((List.range n).filter (fun k => k < m)).length = m := by
  rw [← List.Ico.zero_bot, List.Ico.filter_lt, List.Ico.length, Nat.sub_zero, min_eq_right h]

/-- Settles O44: the wave is high before tick `N - N div 2` of every cycle. -/
theorem squareWaveDutyCycle : Obligations.SquareWaveDutyCycle := by
  intro c hm
  refine ⟨Channel.ticks_start_out_mode3 hm, ?_⟩
  have hhigh : ∀ n ∈ List.range (eff c.reload),
      (c.start.ticks n).out = decide (n < eff c.reload - half (eff c.reload)) := by
    intro n hn
    have hlt : n < eff c.reload := List.mem_range.1 hn
    rw [Channel.ticks_start_out_mode3 hm, Nat.mod_eq_of_lt hlt, decide_eq_decide]
    omega
  rw [List.filter_congr hhigh, length_filter_range_lt (Nat.sub_le _ _), half]
  omega

/-! ## Reconciliation (42_pit R183, R201) -/

theorem Channel.Good.ticking {c : Channel} (h : c.Good) : c.Ticking := by
  obtain ⟨hticks, -, -, -⟩ := h
  exact hticks

theorem Pit.Good.chan {p : Pit} (h : p.Good) (k : PitChan) : (p.chan k).Good := by
  obtain ⟨h0, h1, h2⟩ := h
  cases k with
  | ch0 => exact h0
  | ch1 => exact h1
  | ch2 => exact h2

theorem Pit.reconcile_of_le {p : Pit} {now : Nat} (h : now ≤ p.last) : p.reconcile now = p := if_pos h

theorem Pit.reconcile_of_lt {p : Pit} {now : Nat} (h : p.last < now) : p.reconcile now =
    ⟨p.ch0.fold (ticksAt now - ticksAt p.last), p.ch1.fold (ticksAt now - ticksAt p.last),
      p.ch2.fold (ticksAt now - ticksAt p.last), now⟩ := if_neg (Nat.not_le.2 h)

theorem Pit.chan_reconcile_of_lt {p : Pit} {now : Nat} (h : p.last < now) (k : PitChan) :
    (p.reconcile now).chan k = (p.chan k).fold (ticksAt now - ticksAt p.last) := by
  rw [Pit.reconcile_of_lt h]
  cases k <;> rfl

/-- Settles O41: the ticks of the two parts of the interval add up to those of the whole. -/
theorem extraReconciliationIsUnobservable : Obligations.ExtraReconciliationIsUnobservable := by
  intro p t1 t2 ⟨h0, h1, h2⟩ h12
  obtain hle | hlt := le_or_gt t1 p.last
  · rw [Pit.reconcile_of_le hle]
  · obtain heq | hlt2 := Nat.eq_or_lt_of_le h12
    · rw [heq, Pit.reconcile_again]
    · rw [Pit.reconcile_of_lt hlt, Pit.reconcile_of_lt (by exact hlt2), Pit.reconcile_of_lt (hlt.trans hlt2),
        ticksAt_sub_split hlt.le h12]
      simp only [Channel.fold_fold h0.ticking, Channel.fold_fold h1.ticking, Channel.fold_fold h2.ticking]

/-- Settles O42, by whether time has elapsed. -/
theorem reconciliationKeepsTheConfiguration : Obligations.ReconciliationKeepsTheConfiguration := by
  intro p now
  refine ⟨Pit.reconcile_of_le, fun h => by rw [Pit.reconcile_of_lt h], fun hgood h k => ?ticks, fun k => ?frame⟩
  case ticks => rw [Pit.chan_reconcile_of_lt h, Channel.fold_eq_ticks (hgood.chan k).ticking]
  case frame =>
    obtain h | h := le_or_gt now p.last
    · rw [Pit.reconcile_of_le h]
    · rw [Pit.chan_reconcile_of_lt h]
      exact Channel.fold_eq _ _

end Sys2Proof.Machine
end

section
/-!
PROOFS. What the operations on one unit keep: the invariants of 10_state R46 and 43_cmos_rtc R266 (c), the two times
(42_pit R183, 43_cmos_rtc R264), and the in-service bits of the PIC (41_pic R144 to R152).
-/
namespace Sys2Proof.Machine

/-! ## Channels (10_state R46) -/

section

variable {c : Channel}

theorem Channel.Good.fold (h : c.Good) (n : Nat) : (c.fold n).Good := by
  obtain ⟨hticks, hcur, hleft, haccess⟩ := h
  cases hr : c.running with
  | false => rw [Channel.fold_of_stopped hr]; exact ⟨hticks, hcur, hleft, haccess⟩
  | true =>
    have hcount := countAfter_bounds (eff_pos c.reload) c.cur n
    have hn := eff_le c.reload
    obtain hlt | hge := Nat.lt_or_ge n c.cur
    · rw [Channel.fold_of_lt hr hlt]
      exact ⟨fun _ => Nat.sub_pos_of_lt hlt, (Nat.sub_le _ _).trans hcur, hleft, haccess⟩
    · obtain hm | hm | hm := c.mode_cases
      · rw [Channel.fold_end_mode0 hr hge hm]
        exact ⟨nofun, Nat.zero_le _, hleft, haccess⟩
      · rw [Channel.fold_end_mode2 hr hge hm]
        exact ⟨fun _ => hcount.1, hcount.2.trans hn, hleft, haccess⟩
      · rw [Channel.fold_end_mode3 hr hge hm]
        exact ⟨fun _ => hcount.1, hcount.2.trans hn, hleft, haccess⟩

theorem Channel.Good.start (h : c.Good) : c.start.Good := by
  obtain ⟨-, -, hleft, haccess⟩ := h
  exact ⟨fun _ => eff_pos _, eff_le _, hleft, haccess⟩

theorem Channel.Good.latch (h : c.Good) : c.latch.Good := by
  obtain ⟨hticks, hcur, hleft, haccess⟩ := h
  rw [Channel.latch_eq]
  refine ⟨hticks, hcur, ?_, fun ha => ?_⟩
  · dsimp only
    split_ifs <;> omega
  · have ha' : c.access ≠ .lohi := ha
    have hone := haccess ha'
    dsimp only
    rw [if_neg ha']
    split_ifs <;> omega

theorem Channel.Good.setMode (c : Channel) (m : PitMode) (rw : Access) : (c.setMode m rw).Good :=
  ⟨nofun, Nat.zero_le _, Nat.zero_le _, fun _ => Nat.zero_le _⟩

theorem Channel.Good.writeLo (h : c.Good) (v : Byte) : (c.writeLo v).Good :=
  Channel.Good.start (c := { c with reload := v.setWidth 16 }) h

theorem Channel.Good.writeHi (h : c.Good) (v : Byte) : (c.writeHi v).Good :=
  Channel.Good.start (c := { c with reload := v ++ 0x00#8 }) h

theorem Channel.Good.writeLow (h : c.Good) (v : Byte) : (c.writeLow v).Good := h

theorem Channel.Good.writeHigh (h : c.Good) (v : Byte) : (c.writeHigh v).Good :=
  Channel.Good.start (c := { c with reload := v ++ lowByte c.reload, cursor := .low }) h

theorem Channel.Good.readLive (h : c.Good) : c.readLive.2.Good := h

theorem Channel.Good.readLatched (h : c.Good) : c.readLatched.2.Good := by
  obtain ⟨hticks, hcur, hleft, haccess⟩ := h
  exact ⟨hticks, hcur, (Nat.sub_le _ _).trans hleft, fun ha => (Nat.sub_le _ _).trans (haccess ha)⟩

end

/-! ## The PIT (10_state R46, 42_pit R183) -/

/-- The time of the last reconciliation does not go back, and the invariants of the channels are kept. -/
structure Pit.Follows (p q : Pit) : Prop where
  last : p.last ≤ q.last
  good : p.Good → q.Good

theorem Pit.Follows.refl (p : Pit) : p.Follows p := ⟨le_rfl, id⟩

theorem Pit.Follows.trans {p q r : Pit} (hpq : p.Follows q) (hqr : q.Follows r) : p.Follows r :=
  ⟨hpq.last.trans hqr.last, hqr.good ∘ hpq.good⟩

theorem Pit.Follows.reconcile (p : Pit) (now : Nat) : p.Follows (p.reconcile now) := by
  refine ⟨p.last_le_reconcile now, fun ⟨h0, h1, h2⟩ => ?_⟩
  obtain ⟨-, h⟩ | ⟨-, h⟩ := p.reconcile_cases now <;> rw [h]
  · exact ⟨h0, h1, h2⟩
  · exact ⟨h0.fold _, h1.fold _, h2.fold _⟩

theorem Pit.Good.setChan {p : Pit} (h : p.Good) (k : PitChan) {c : Channel} (hc : c.Good) : (p.setChan k c).Good := by
  obtain ⟨h0, h1, h2⟩ := h
  cases k with
  | ch0 => exact ⟨hc, h1, h2⟩
  | ch1 => exact ⟨h0, hc, h2⟩
  | ch2 => exact ⟨h0, h1, hc⟩

/-- Reconcile, then change one channel in a way that keeps its invariants (42_pit R186, R189, R195). -/
theorem Pit.Follows.onChannel (p : Pit) (now : Nat) (k : PitChan) {f : Channel → Channel}
    (hf : ∀ c : Channel, c.Good → (f c).Good) :
    p.Follows ((p.reconcile now).setChan k (f ((p.reconcile now).chan k))) := by
  refine (Pit.Follows.reconcile p now).trans ⟨?_, fun h => h.setChan k (hf _ (h.chan k))⟩
  rw [Pit.setChan_last]

theorem Pit.Follows.poll (p : Pit) (now : Nat) : p.Follows (p.poll now).2 :=
  Pit.Follows.onChannel p now .ch0 (f := fun c => { c with edge := false }) fun _ h => h

/-! ## The CMOS/RTC (43_cmos_rtc R264, R266) -/

/-- The time of the last poll does not go back, and the line stays lawful. -/
structure Cmos.Follows (c d : Cmos) : Prop where
  lastMono : c.lastMono ≤ d.lastMono
  line : c.LineGood → d.LineGood

theorem Cmos.Follows.refl (c : Cmos) : c.Follows c := ⟨le_rfl, id⟩

theorem Cmos.Follows.trans {c d e : Cmos} (hcd : c.Follows d) (hde : d.Follows e) : c.Follows e :=
  ⟨hcd.lastMono.trans hde.lastMono, hde.line ∘ hcd.line⟩

theorem Cmos.Follows.clearFlags (c : Cmos) : c.Follows c.clearFlags := ⟨le_rfl, fun _ => nofun⟩

/-- IRQF is of a source that is pending (30_encoding R112). -/
theorem Cmos.pending_of_irqf {c : Cmos} (h : c.irqf = true) : (c.pf || c.af || c.uf) = true := by
  simp only [Cmos.irqf, Bool.or_eq_true, Bool.and_eq_true] at h ⊢
  obtain (⟨-, h⟩ | ⟨-, h⟩) | ⟨-, h⟩ := h
  · exact .inl (.inl h)
  · exact .inl (.inr h)
  · exact .inr h

/-- The poll puts IRQF on the line, so the line is high for a source that is pending (43_cmos_rtc R264). -/
theorem Cmos.Follows.poll (c : Cmos) (w : Wall) (m : Nat) : c.Follows (c.poll w m).2 :=
  ⟨(le_max_left _ _).trans_eq (c.sample_lastMono_eq_max w m).symm,
    fun _ h => Cmos.pending_of_irqf (c := c.sample w m) h⟩

/-! ## The PIC (41_pic R144 to R152) -/

/-- No IRQ enters service. -/
def Pic.ServesNoMore (p q : Pic) : Prop := ∀ j : Irq, irqBit q.isr j = true → irqBit p.isr j = true

theorem Pic.ServesNoMore.of_isr_eq {p q : Pic} (h : q.isr = p.isr) : p.ServesNoMore q := fun _ hj => h ▸ hj

theorem Pic.ServesNoMore.clearIrq {p q : Pic} {i : Irq} (h : q.isr = clearIrq p.isr i) : p.ServesNoMore q := by
  intro j hj
  rw [h, irqBit_clearIrq, Bool.and_eq_true] at hj
  exact hj.1

theorem Pic.ServesNoMore.clearNs {p q : Pic} {n : Nesting} (h : q.isr = (p.clearNs n).isr) : p.ServesNoMore q := by
  intro j hj
  rw [h] at hj
  cases n with
  | single =>
    rw [Pic.clearNs_single_isr, irqBit_zero] at hj
    exact absurd hj nofun
  | fullyNested =>
    rw [Pic.irqBit_clearNs_fullyNested, Bool.and_eq_true] at hj
    exact hj.1

end Sys2Proof.Machine
end

section
/-!
PROOFS. Everything one instruction can do, said once: which unit it works on, what it may make of that unit, and what of
the log (10_state R20, R60).
-/
namespace Sys2Proof.Machine

/-! ## Whose an instruction is, and what the log becomes -/

/-- The unit that owns the port of an instruction's access word (20_memory R71); none for a host call. -/
def ownerOfInstr (i : Instr) : Option PortUnit := (encode i).bind fun w => ownerOf (AccessWord.port w)

/-- The instruction belongs to no unit but `u`. -/
def OnlyOf (u : PortUnit) (i : Instr) : Prop := ∀ v : PortUnit, ownerOfInstr i = some v → v = u

theorem onlyOf_write {u : PortUnit} {i : Instr} {p : Port} {v : Byte} (henc : encode i = some (writeWord p v))
    (hp : ownerOf p = some u) : OnlyOf u i := by
  intro x hx
  rw [ownerOfInstr, henc, Option.bind_some, port_writeWord, hp] at hx
  exact (Option.some.inj hx).symm

theorem onlyOf_read {u : PortUnit} {i : Instr} {p : Port} (henc : encode i = some (readWord p))
    (hp : ownerOf p = some u) : OnlyOf u i := by
  intro x hx
  rw [ownerOfInstr, henc, Option.bind_some, port_readWord, hp] at hx
  exact (Option.some.inj hx).symm

theorem onlyOf_noWord {u : PortUnit} {i : Instr} (henc : encode i = none) : OnlyOf u i := by
  intro x hx
  rw [ownerOfInstr, henc] at hx
  exact absurd hx nofun

/-- The log as it was, or with one record more, which is not PIC_BAD_CMD (10_state R60, 30_encoding R116). -/
def Logs (l m : List Diag) : Prop := m = l ∨ ∃ d : Diag, m = l ++ [d] ∧ d.code ≠ .picBadCmd

theorem Logs.same (l : List Diag) : Logs l l := .inl rfl

theorem Logs.record (l : List Diag) {d : Diag} (h : d.code ≠ .picBadCmd) : Logs l (l ++ [d]) := .inr ⟨d, rfl, h⟩

/-- The three commands that rotate the priority (41_pic R150 to R152). -/
def Rotates (i : Instr) : Prop :=
  (∃ l, i = .picOcw2RotateNonspecificEoi l) ∨ (∃ l, i = .picOcw2SetPriority l) ∨ (∃ l, i = .picOcw2RotateSpecificEoi l)

/-! ## The effect of one instruction -/

/-- What an instruction that works on one unit can do: it changes that unit within its invariants, it may log, and it
may hand back a byte. The PIC's base moves only by rotation, and no IRQ enters service. -/
inductive UnitEffect (i : Instr) (s : State) : State → Prop
  | pic {p : Pic} {d : List Diag} {r : Ret} (owner : OnlyOf .pic i) (log : Logs s.diag d)
      (serves : s.pic.ServesNoMore p) (base : p.base = s.pic.base ∨ Rotates i) :
      UnitEffect i s { s with pic := p, diag := d, ret := r }
  | pit {p : Pit} {d : List Diag} {r : Ret} {n : Nat} (owner : OnlyOf .pit i) (log : Logs s.diag d)
      (follows : s.pit.Follows p) : UnitEffect i s { s with pit := p, diag := d, ret := r, draws := n }
  | cmos {c : Cmos} {d : List Diag} {r : Ret} {n : Nat} (owner : OnlyOf .cmos i) (log : Logs s.diag d)
      (follows : s.cmos.Follows c) : UnitEffect i s { s with cmos := c, diag := d, ret := r, draws := n }

/-- The instruction has a next state in every state, and reaches it by an effect on one unit. -/
def ActsOnOneUnit (i : Instr) : Prop := ∀ s : State, ∃ t : State, exec i s = .next t ∧ UnitEffect i s t

/-! ## Rows of the PIC (41_pic) -/

/-- A row that leaves ISR and the base as they are, and does not log. -/
theorem UnitEffect.picQuiet {i : Instr} {s : State} {p : Pic} {r : Ret} (owner : OnlyOf .pic i)
    (isr : p.isr = s.pic.isr) (base : p.base = s.pic.base) : UnitEffect i s { s with pic := p, ret := r } :=
  .pic owner (.same _) (.of_isr_eq isr) (.inl base)

theorem acts_picOcw2ClearRotateAeoi (l : BitVec 3) : ActsOnOneUnit (.picOcw2ClearRotateAeoi l) := by
  intro s
  refine ⟨_, rfl, ?_⟩
  split
  · exact .picQuiet (onlyOf_write rfl rfl) rfl rfl
  · exact .picQuiet (onlyOf_write rfl rfl) rfl rfl

theorem acts_picOcw2NonspecificEoi (l : BitVec 3) : ActsOnOneUnit (.picOcw2NonspecificEoi l) := fun s =>
  ⟨_, rfl, .pic (onlyOf_write rfl rfl) (.same _) (.clearNs rfl) (.inl (s.pic.clearNs_base s.params.nesting))⟩

theorem acts_picOcw2SpecificEoi (l : Irq) : ActsOnOneUnit (.picOcw2SpecificEoi l) := fun _ =>
  ⟨_, rfl, .pic (onlyOf_write rfl rfl) (.same _) (.clearIrq rfl) (.inl rfl)⟩

theorem acts_picOcw2RotateNonspecificEoi (l : BitVec 3) : ActsOnOneUnit (.picOcw2RotateNonspecificEoi l) := fun _ =>
  ⟨_, rfl, .pic (onlyOf_write rfl rfl) (.same _) (.clearNs (Pic.rotatePastTop_isr _ _)) (.inr (.inl ⟨l, rfl⟩))⟩

theorem acts_picOcw2SetPriority (l : Irq) : ActsOnOneUnit (.picOcw2SetPriority l) := fun _ =>
  ⟨_, rfl, .pic (onlyOf_write rfl rfl) (.same _) (.of_isr_eq rfl) (.inr (.inr (.inl ⟨l, rfl⟩)))⟩

theorem acts_picOcw2RotateSpecificEoi (l : Irq) : ActsOnOneUnit (.picOcw2RotateSpecificEoi l) := fun _ =>
  ⟨_, rfl, .pic (onlyOf_write rfl rfl) (.same _) (.clearIrq rfl) (.inr (.inr (.inr ⟨l, rfl⟩)))⟩

/-- OCW3 may log a special mask request, and may select the status read (41_pic R153). -/
theorem acts_picOcw3 (b7 esmm smm p rr ris : Bool) : ActsOnOneUnit (.picOcw3 b7 esmm smm p rr ris) := by
  intro s
  refine ⟨_, ocw3SelectsTheStatusRead s b7 esmm smm p rr ris,
    .pic (onlyOf_write rfl rfl) ?_ (.of_isr_eq rfl) (.inl rfl)⟩
  cases esmm with
  | false => exact .same _
  | true => exact .record _ nofun

/-! ## Rows of the PIT (42_pit) -/

/-- Reconcile, then change one channel (42_pit R186, R189). -/
theorem UnitEffect.onChannel {i : Instr} {s : State} (owner : OnlyOf .pit i) (k : PitChan) {f : Channel → Channel}
    (hf : ∀ c : Channel, c.Good → (f c).Good) : UnitEffect i s (s.onChannel k f) :=
  .pit owner (.same _) (.onChannel s.pit s.inp.mono k hf)

/-- Reconcile, then read one channel (42_pit R195). -/
theorem UnitEffect.readChannel {i : Instr} {s : State} (owner : OnlyOf .pit i) (k : PitChan)
    {f : Channel → Byte × Channel} (hf : ∀ c : Channel, c.Good → (f c).2.Good) : UnitEffect i s (s.readChannel k f) :=
  .pit owner (.same _) (.onChannel s.pit s.inp.mono k (f := fun c => (f c).2) hf)

/-- Reconcile, then log (42_pit R186). -/
theorem UnitEffect.rejectControl {i : Instr} {s : State} (owner : OnlyOf .pit i) {code : DiagCode}
    (h : code ≠ .picBadCmd) : UnitEffect i s (s.rejectControl code) :=
  .pit owner (.record _ h) (.reconcile s.pit s.inp.mono)

section

variable (k : PitChan) (v : Byte)

theorem acts_pitWriteLo : ActsOnOneUnit (pitWriteLo k v) := fun s =>
  ⟨_, exec_pitWriteLo k v s, .onChannel (by cases k <;> exact onlyOf_write rfl rfl) k fun _ h => h.writeLo v⟩

theorem acts_pitWriteHi : ActsOnOneUnit (pitWriteHi k v) := fun s =>
  ⟨_, exec_pitWriteHi k v s, .onChannel (by cases k <;> exact onlyOf_write rfl rfl) k fun _ h => h.writeHi v⟩

theorem acts_pitWriteLohiLow : ActsOnOneUnit (pitWriteLohiLow k v) := fun s =>
  ⟨_, exec_pitWriteLohiLow k v s, .onChannel (by cases k <;> exact onlyOf_write rfl rfl) k fun _ h => h.writeLow v⟩

theorem acts_pitWriteLohiHigh : ActsOnOneUnit (pitWriteLohiHigh k v) := fun s =>
  ⟨_, exec_pitWriteLohiHigh k v s, .onChannel (by cases k <;> exact onlyOf_write rfl rfl) k fun _ h => h.writeHigh v⟩

theorem acts_pitReadLatched : ActsOnOneUnit (pitReadLatched k) := fun s =>
  ⟨_, exec_pitReadLatched k s, .readChannel (by cases k <;> exact onlyOf_read rfl rfl) k fun _ h => h.readLatched⟩

theorem acts_pitReadLive : ActsOnOneUnit (pitReadLive k) := fun s =>
  ⟨_, exec_pitReadLive k s, .readChannel (by cases k <;> exact onlyOf_read rfl rfl) k fun _ h => h.readLive⟩

theorem acts_pitCtlLatch (low : BitVec 4) : ActsOnOneUnit (pitCtlLatch k low) := fun s =>
  ⟨_, exec_pitCtlLatch k s low, .onChannel (by cases k <;> exact onlyOf_write rfl rfl) k fun _ h => h.latch⟩

theorem acts_pitCtlSetMode (m : PitMode) (rw : Access) : ActsOnOneUnit (pitCtlSetMode m k rw) := fun s =>
  ⟨_, exec_pitCtlSetMode k s m rw, .onChannel (by cases m <;> exact onlyOf_write rfl rfl) k fun c _ => .setMode c m rw⟩

end

/-! ## Rows of the CMOS/RTC (43_cmos_rtc) -/

/-- A row that does not log. -/
theorem UnitEffect.cmosQuiet {i : Instr} {s : State} {c : Cmos} {r : Ret} (owner : OnlyOf .cmos i)
    (follows : s.cmos.Follows c) : UnitEffect i s { s with cmos := c, ret := r } :=
  .cmos owner (.same _) follows

/-- A read that hands back a byte and changes nothing (20_memory R76). -/
theorem UnitEffect.cmosReply {i : Instr} {s : State} {b : Byte} (henc : encode i = some (readWord 0x71#16)) :
    UnitEffect i s (s.reply b) :=
  .cmosQuiet (onlyOf_read henc rfl) (.refl _)

/-! ## The host calls -/

/-- `push_irq` (41_pic R161). -/
theorem acts_hostPushIrq (n : Nat) : ActsOnOneUnit (.hostPushIrq n) := by
  intro s
  refine ⟨s.pushIrq n, rfl, ?_⟩
  obtain ⟨-, h⟩ | ⟨-, h⟩ := s.pushIrq_cases n <;> rw [h]
  · exact .pic (onlyOf_noWord rfl) (.record _ nofun) (.of_isr_eq rfl) (.inl rfl)
  · exact .picQuiet (onlyOf_noWord rfl) (Pic.request_isr _ _) (Pic.request_base _ _)

/-- `attach` (41_pic R165). -/
theorem acts_hostAttach (n : Nat) (d : Device) : ActsOnOneUnit (.hostAttach n d) := by
  intro s
  refine ⟨_, rfl, ?_⟩
  split
  · exact .pic (onlyOf_noWord rfl) (.record _ nofun) (.of_isr_eq rfl) (.inl rfl)
  · exact .picQuiet (onlyOf_noWord rfl) rfl rfl

/-- Everything one instruction can do: its effect on one unit, or phase 1 of the poll, or the grant of phase 3. -/
theorem acts_or_poll (i : Instr) : ActsOnOneUnit i ∨ i = .hostPollAttachedDevices ∨ ∃ k, i = .hostPollGrant k := by
  cases i with
  | picIcw1 a7 ltim adi sngl ic4 => exact .inl fun _ => ⟨_, rfl, .picQuiet (onlyOf_write rfl rfl) rfl rfl⟩
  | picOcw2ClearRotateAeoi l => exact .inl (acts_picOcw2ClearRotateAeoi l)
  | picOcw2NonspecificEoi l => exact .inl (acts_picOcw2NonspecificEoi l)
  | picOcw2Nop l => exact .inl fun _ => ⟨_, rfl, .picQuiet (onlyOf_write rfl rfl) rfl rfl⟩
  | picOcw2SpecificEoi l => exact .inl (acts_picOcw2SpecificEoi l)
  | picOcw2SetRotateAeoi l => exact .inl fun _ => ⟨_, rfl, .picQuiet (onlyOf_write rfl rfl) rfl rfl⟩
  | picOcw2RotateNonspecificEoi l => exact .inl (acts_picOcw2RotateNonspecificEoi l)
  | picOcw2SetPriority l => exact .inl (acts_picOcw2SetPriority l)
  | picOcw2RotateSpecificEoi l => exact .inl (acts_picOcw2RotateSpecificEoi l)
  | picOcw3 b7 esmm smm p rr ris => exact .inl (acts_picOcw3 b7 esmm smm p rr ris)
  | picIcw2 v => exact .inl fun _ => ⟨_, rfl, .picQuiet (onlyOf_write rfl rfl) rfl rfl⟩
  | picIcw3 v => exact .inl fun _ => ⟨_, rfl, .picQuiet (onlyOf_write rfl rfl) rfl rfl⟩
  | picIcw4 b75 sfnm buf ms aeoi upm => exact .inl fun _ => ⟨_, rfl, .picQuiet (onlyOf_write rfl rfl) rfl rfl⟩
  | picOcw1 v => exact .inl fun _ => ⟨_, rfl, .picQuiet (onlyOf_write rfl rfl) rfl rfl⟩
  | picReadStatus => exact .inl fun _ => ⟨_, rfl, .picQuiet (onlyOf_read rfl rfl) rfl rfl⟩
  | picReadImr => exact .inl fun _ => ⟨_, rfl, .picQuiet (onlyOf_read rfl rfl) rfl rfl⟩
  | pitCtlBadChannel low => exact .inl fun _ => ⟨_, rfl, .rejectControl (onlyOf_write rfl rfl) nofun⟩
  | pitCtlLatchCh0 low => exact .inl (acts_pitCtlLatch .ch0 low)
  | pitCtlLatchCh1 low => exact .inl (acts_pitCtlLatch .ch1 low)
  | pitCtlLatchCh2 low => exact .inl (acts_pitCtlLatch .ch2 low)
  | pitCtlBcd k rw m => exact .inl fun _ => ⟨_, rfl, .rejectControl (onlyOf_write rfl rfl) nofun⟩
  | pitCtlSetMode0 k rw => exact .inl (acts_pitCtlSetMode k .mode0 rw)
  | pitCtlSetMode2 k rw => exact .inl (acts_pitCtlSetMode k .mode2 rw)
  | pitCtlSetMode3 k rw => exact .inl (acts_pitCtlSetMode k .mode3 rw)
  | pitCtlBadMode k rw m => exact .inl fun _ => ⟨_, rfl, .rejectControl (onlyOf_write rfl rfl) nofun⟩
  | pitCh0WriteLo v => exact .inl (acts_pitWriteLo .ch0 v)
  | pitCh0WriteHi v => exact .inl (acts_pitWriteHi .ch0 v)
  | pitCh0WriteLohiLow v => exact .inl (acts_pitWriteLohiLow .ch0 v)
  | pitCh0WriteLohiHigh v => exact .inl (acts_pitWriteLohiHigh .ch0 v)
  | pitCh0ReadLatched => exact .inl (acts_pitReadLatched .ch0)
  | pitCh0ReadLive => exact .inl (acts_pitReadLive .ch0)
  | pitCh1WriteLo v => exact .inl (acts_pitWriteLo .ch1 v)
  | pitCh1WriteHi v => exact .inl (acts_pitWriteHi .ch1 v)
  | pitCh1WriteLohiLow v => exact .inl (acts_pitWriteLohiLow .ch1 v)
  | pitCh1WriteLohiHigh v => exact .inl (acts_pitWriteLohiHigh .ch1 v)
  | pitCh1ReadLatched => exact .inl (acts_pitReadLatched .ch1)
  | pitCh1ReadLive => exact .inl (acts_pitReadLive .ch1)
  | pitCh2WriteLo v => exact .inl (acts_pitWriteLo .ch2 v)
  | pitCh2WriteHi v => exact .inl (acts_pitWriteHi .ch2 v)
  | pitCh2WriteLohiLow v => exact .inl (acts_pitWriteLohiLow .ch2 v)
  | pitCh2WriteLohiHigh v => exact .inl (acts_pitWriteLohiHigh .ch2 v)
  | pitCh2ReadLatched => exact .inl (acts_pitReadLatched .ch2)
  | pitCh2ReadLive => exact .inl (acts_pitReadLive .ch2)
  | pitCtlRead => exact .inl fun s => ⟨_, rfl, .pit (onlyOf_read rfl rfl) (.record _ nofun) (.refl _)⟩
  | cmosIndexWrite b7 n => exact .inl fun _ => ⟨_, rfl, .cmosQuiet (onlyOf_write rfl rfl) ⟨le_rfl, id⟩⟩
  | cmosIndexRead => exact .inl fun s => ⟨_, rfl, .cmos (onlyOf_read rfl rfl) (.record _ nofun) (.refl _)⟩
  | cmosReadSeconds => exact .inl fun _ => ⟨_, rfl, .cmosReply rfl⟩
  | cmosReadAlarmSeconds => exact .inl fun _ => ⟨_, rfl, .cmosReply rfl⟩
  | cmosReadMinutes => exact .inl fun _ => ⟨_, rfl, .cmosReply rfl⟩
  | cmosReadAlarmMinutes => exact .inl fun _ => ⟨_, rfl, .cmosReply rfl⟩
  | cmosReadHours => exact .inl fun _ => ⟨_, rfl, .cmosReply rfl⟩
  | cmosReadAlarmHours => exact .inl fun _ => ⟨_, rfl, .cmosReply rfl⟩
  | cmosReadWeekday => exact .inl fun _ => ⟨_, rfl, .cmosReply rfl⟩
  | cmosReadDay => exact .inl fun _ => ⟨_, rfl, .cmosReply rfl⟩
  | cmosReadMonth => exact .inl fun _ => ⟨_, rfl, .cmosReply rfl⟩
  | cmosReadYear => exact .inl fun _ => ⟨_, rfl, .cmosReply rfl⟩
  | cmosReadStatusA => exact .inl fun _ => ⟨_, rfl, .cmosReply rfl⟩
  | cmosReadStatusB => exact .inl fun _ => ⟨_, rfl, .cmosReply rfl⟩
  | cmosReadStatusC =>
    exact .inl fun s => ⟨_, exec_cmosReadStatusC s, .cmosQuiet (onlyOf_read rfl rfl) (.clearFlags s.cmos)⟩
  | cmosReadStatusD => exact .inl fun _ => ⟨_, rfl, .cmosReply rfl⟩
  | cmosReadCentury => exact .inl fun _ => ⟨_, rfl, .cmosReply rfl⟩
  | cmosReadFixed => exact .inl fun _ => ⟨_, rfl, .cmosReply rfl⟩
  | cmosWriteAlarmSeconds v => exact .inl fun _ => ⟨_, rfl, .cmosQuiet (onlyOf_write rfl rfl) ⟨le_rfl, id⟩⟩
  | cmosWriteAlarmMinutes v => exact .inl fun _ => ⟨_, rfl, .cmosQuiet (onlyOf_write rfl rfl) ⟨le_rfl, id⟩⟩
  | cmosWriteAlarmHours v => exact .inl fun _ => ⟨_, rfl, .cmosQuiet (onlyOf_write rfl rfl) ⟨le_rfl, id⟩⟩
  | cmosWriteStatusA uip rega => exact .inl fun _ => ⟨_, rfl, .cmosQuiet (onlyOf_write rfl rfl) ⟨le_rfl, id⟩⟩
  | cmosWriteStatusB set pie aie uie sqwe dm h24 dse =>
    exact .inl fun _ => ⟨_, rfl, .cmosQuiet (onlyOf_write rfl rfl) ⟨le_rfl, id⟩⟩
  | cmosWriteStatusCd v => exact .inl fun s => ⟨_, rfl, .cmos (onlyOf_write rfl rfl) (.record _ nofun) (.refl _)⟩
  | cmosWriteOther v => exact .inl fun _ => ⟨_, rfl, .cmosQuiet (onlyOf_write rfl rfl) (.refl _)⟩
  | hostPollAttachedDevices => exact .inr (.inl rfl)
  | hostPollResolve => exact .inl fun _ => ⟨_, rfl, .picQuiet (onlyOf_noWord rfl) rfl rfl⟩
  | hostPollGrant k => exact .inr (.inr ⟨k, rfl⟩)
  | hostPushIrq n => exact .inl (acts_hostPushIrq n)
  | hostAttach n d => exact .inl (acts_hostAttach n d)
  | hostPitPollIrq =>
    exact .inl fun s => ⟨_, rfl, .pit (onlyOf_noWord rfl) (.same _) (.poll s.pit s.inp.mono)⟩
  | hostCmosPollIrq =>
    exact .inl fun s => ⟨_, rfl, .cmosQuiet (onlyOf_noWord rfl) (.poll s.cmos s.inp.wall s.inp.mono)⟩

end Sys2Proof.Machine
end

section
/-!
PROOFS. Everything one step can do, said once (20_memory R73), and the statements about every step that follow from it.
-/
namespace Sys2Proof.Machine

/-! ## Which ports have a unit (20_memory R71) -/

theorem portIn_iff (p : Port) (base n : Nat) : portIn p base n = true ↔ base ≤ p.toNat ∧ p.toNat < base + n := by
  rw [portIn, Bool.and_eq_true, decide_eq_true_eq, decide_eq_true_eq]

theorem ownerOf_eq_pic_iff (p : Port) : ownerOf p = some .pic ↔ p = 0x20#16 ∨ p = 0x21#16 := by
  simp only [ownerOf, portIn_iff, ← BitVec.toNat_inj, BitVec.toNat_ofNat]
  split_ifs <;> simp <;> omega

theorem ownerOf_eq_pit_iff (p : Port) :
    ownerOf p = some .pit ↔ p = 0x40#16 ∨ p = 0x41#16 ∨ p = 0x42#16 ∨ p = 0x43#16 := by
  simp only [ownerOf, portIn_iff, ← BitVec.toNat_inj, BitVec.toNat_ofNat]
  split_ifs <;> simp <;> omega

theorem ownerOf_eq_cmos_iff (p : Port) : ownerOf p = some .cmos ↔ p = 0x70#16 ∨ p = 0x71#16 := by
  simp only [ownerOf, portIn_iff, ← BitVec.toNat_inj, BitVec.toNat_ofNat]
  split_ifs <;> simp <;> omega

/-- The ports that have a unit are the eight of the block. -/
theorem ownerOf_isSome_iff (p : Port) : (ownerOf p).isSome = true ↔ p ∈ blockPorts := by
  constructor
  · intro h
    obtain ⟨u, hu⟩ := Option.isSome_iff_exists.1 h
    cases u with
    | pic => obtain rfl | rfl := (ownerOf_eq_pic_iff p).1 hu <;> decide
    | pit => obtain rfl | rfl | rfl | rfl := (ownerOf_eq_pit_iff p).1 hu <;> decide
    | cmos => obtain rfl | rfl := (ownerOf_eq_cmos_iff p).1 hu <;> decide
  · intro h
    simp only [blockPorts, List.mem_cons, List.not_mem_nil, or_false] at h
    obtain rfl | rfl | rfl | rfl | rfl | rfl | rfl | rfl := h <;> rfl

/-! ## Phase 1 of the poll (41_pic R162) -/

/-- What phase 1 leaves as it is: of the PIC all but IRR, the log, the parameters and the vectors; the PIT and the CMOS
follow on what they were. -/
structure Collected (s u : State) : Prop where
  pic : u.pic = { s.pic with irr := u.pic.irr }
  diag : u.diag = s.diag
  params : u.params = s.params
  delivered : u.delivered = s.delivered
  pit : s.pit.Follows u.pit
  cmos : s.cmos.Follows u.cmos

/-- The poll of a device follows on the PIT and on the CMOS as they were. -/
theorem State.pollDevice_follows (s : State) (i : Irq) :
    s.pit.Follows (s.pollDevice i).2.pit ∧ s.cmos.Follows (s.pollDevice i).2.cmos := by
  obtain ⟨-, h⟩ | ⟨-, h⟩ | ⟨-, h⟩ | ⟨d, -, h⟩ := s.pollDevice_cases i <;> rw [h]
  · exact ⟨.refl _, .refl _⟩
  · exact ⟨.poll _ _, .refl _⟩
  · exact ⟨.refl _, .poll _ _ _⟩
  · exact ⟨.refl _, .refl _⟩

theorem State.pollLines_follows (s : State) : s.pit.Follows s.pollLines.pit ∧ s.cmos.Follows s.pollLines.cmos := by
  refine State.pollLines_keeps (fun t => s.pit.Follows t.pit ∧ s.cmos.Follows t.cmos) ?_ s ⟨.refl _, .refl _⟩
  rintro t i ⟨hpit, hcmos⟩
  obtain ⟨hpit', hcmos'⟩ := t.pollDevice_follows i
  rw [State.pollLine_eq]
  exact ⟨hpit.trans hpit', hcmos.trans hcmos'⟩

theorem State.collected_pollLines (s : State) : Collected s s.pollLines := by
  obtain ⟨hpit, hcmos⟩ := s.pollLines_follows
  obtain ⟨pit, cmos, irr, h⟩ := s.pollLines_writes
  rw [h] at hpit hcmos ⊢
  exact ⟨rfl, rfl, rfl, rfl, hpit, hcmos⟩

section

variable {s u : State}

theorem Collected.isr (h : Collected s u) : u.pic.isr = s.pic.isr := by rw [h.pic]

theorem Collected.imr (h : Collected s u) : u.pic.imr = s.pic.imr := by rw [h.pic]

theorem Collected.base (h : Collected s u) : u.pic.base = s.pic.base := by rw [h.pic]

theorem Collected.vbase (h : Collected s u) : u.pic.vbase = s.pic.vbase := by rw [h.pic]

end

/-! ## One step -/

/-- The word of a one-byte access is of its port. -/
@[simp] theorem port_accessWord (a : PortAccess) : AccessWord.port (accessWord a) = a.port := by
  unfold accessWord
  split
  · exact port_writeWord _ _
  · exact port_readWord _

theorem port_canonical (w : AccessWord) : AccessWord.port (AccessWord.canonical w) = AccessWord.port w := by
  unfold AccessWord.canonical
  split
  · rfl
  next h => rw [← readWord_port (eq_false_of_ne_true h), port_readWord]

/-- What an access decodes to is of the unit that owns the port. -/
theorem ownerOfInstr_of_decode {c : Ctx} {a : PortAccess} {i : Instr} (h : decode c (accessWord a) = .ok i) :
    ownerOfInstr i = ownerOf a.port := by
  obtain ⟨-, -, henc⟩ := encodeOfDecodeIsTheWord c (accessWord a) i h
  have hword : encode i = some (AccessWord.canonical (accessWord a)) := henc
  rw [ownerOfInstr, hword, Option.bind_some, port_canonical, port_accessWord]

/-- What decodes is at one of the eight ports, and each of them has a unit. -/
theorem ownerOf_isSome_of_decode {c : Ctx} {a : PortAccess} {i : Instr} (h : decode c (accessWord a) = .ok i) :
    (ownerOf a.port).isSome = true := by
  obtain ⟨hp, -⟩ | ⟨-, herr⟩ := decode_cases c (accessWord a)
  · rwa [ownerOf_isSome_iff, ← port_accessWord a]
  · exact absurd (herr.symm.trans h) nofun

/-- What an access decodes to is no host call, so its effect is on one unit. -/
theorem acts_of_decode {c : Ctx} {a : PortAccess} {i : Instr} (h : decode c (accessWord a) = .ok i) : ActsOnOneUnit i := by
  obtain ⟨-, -, henc⟩ := encodeOfDecodeIsTheWord c (accessWord a) i h
  obtain hacts | rfl | ⟨k, rfl⟩ := acts_or_poll i
  · exact hacts
  · exact absurd henc nofun
  · exact absurd henc nofun

/-- What `poll()` leaves, when its phase 2 names no winner and when it names one (41_pic R164). -/
inductive PollEffect (s : State) : State → Prop
  | nothing {u : State} (collected : Collected s u) : PollEffect s { u with ret := .vector none }
  | granted {u : State} (collected : Collected s u) (i : Irq) (winner : u.pic.resolve s.params.nesting = some i) :
      PollEffect s (State.grant { u with ret := .winner (some i) } i)

theorem performPoll_effect (s : State) : ∃ t : State, performPoll s = .next t ∧ PollEffect s t := by
  have hcollected := s.collected_pollLines
  rw [performPoll_eq, hcollected.params]
  split
  · exact ⟨_, rfl, .nothing hcollected⟩
  next i h => exact ⟨_, rfl, .granted hcollected i h⟩

/-- What a step that reaches no unit leaves: only the log and the model's own fields can differ. -/
def Quiet (s t : State) : Prop :=
  ∃ (d : List Diag) (l : List Request) (x : Inputs) (r : Ret) (n : Nat), Logs s.diag d ∧
    t = { s with diag := d, pending := l, inp := x, ret := r, draws := n }

/-- A rejected access is logged (40_port_contract R130, R131). -/
theorem quiet_rejectAccess (s : State) {code : DiagCode} (h : code = .badSize ∨ code = .unmapped) (a : PortAccess) :
    Quiet s (s.rejectAccess code a) := by
  refine ⟨_, _, _, _, _, .record _ ?_, State.rejectAccess_eq s code a⟩
  obtain rfl | rfl := h
  · exact nofun
  · exact nofun

/-- Everything a step can do: it reaches no unit; or one operation, accepted with its inputs, works on one unit; or it
is a poll. -/
inductive StepEffect (s : State) : State → Prop
  | quiet {t : State} (h : Quiet s t) : StepEffect s t
  | unit {t : State} (r : Request) (rest : List Request) (i : Instr) (h : UnitEffect i (s.accept r rest) t) :
      StepEffect s t
  | poll {t : State} (r : Request) (rest : List Request) (h : PollEffect (s.accept r rest) t) : StepEffect s t

/-- Every state has a next state, and what it is. -/
theorem step_effect (s : State) : ∃ t : State, step s = .next t ∧ StepEffect s t := by
  have hunit : ∀ (r : Request) (rest : List Request) {i : Instr}, ActsOnOneUnit i →
      stepState s = exec i (s.accept r rest) → ∃ t : State, stepState s = .next t ∧ StepEffect s t := by
    intro r rest i hacts h
    obtain ⟨t, ht, heff⟩ := hacts (s.accept r rest)
    exact ⟨t, h.trans ht, .unit r rest i heff⟩
  show ∃ t : State, stepState s = .next t ∧ StepEffect s t
  obtain ⟨-, h⟩ | ⟨r, rest, -, hcases⟩ := step_cases s
  · exact ⟨s, h, .quiet ⟨_, _, _, _, _, .same _, rfl⟩⟩
  · obtain h | ⟨a, code, -, hcode, h⟩ | ⟨a, i, -, hi, h⟩ | ⟨-, h⟩ | ⟨n, -, h⟩ | ⟨n, d, -, h⟩ := hcases
    · exact ⟨_, h, .quiet ⟨_, _, _, _, _, .same _, rfl⟩⟩
    · obtain ⟨d, l, x, q, n, hlog, ht⟩ := quiet_rejectAccess (s.accept r rest) hcode a
      exact ⟨_, h, .quiet ⟨d, l, x, q, n, hlog, ht⟩⟩
    · exact hunit r rest (acts_of_decode hi) h
    · obtain ⟨t, ht, heff⟩ := performPoll_effect (s.accept r rest)
      exact ⟨t, h.trans ht, .poll r rest heff⟩
    · exact hunit r rest (acts_hostPushIrq n) h
    · exact hunit r rest (acts_hostAttach n d) h

theorem stepEffect_of_next {s t : State} (h : step s = .next t) : StepEffect s t := by
  obtain ⟨u, hu, heff⟩ := step_effect s
  obtain rfl : u = t := Host.Outcome.next.inj (hu.symm.trans h)
  exact heff

/-! ## What an effect on one unit keeps -/

section

variable {i : Instr} {s t : State}

theorem UnitEffect.log (h : UnitEffect i s t) : Logs s.diag t.diag := by
  cases h with
  | pic _ log => exact log
  | pit _ log => exact log
  | cmos _ log => exact log

theorem UnitEffect.delivered (h : UnitEffect i s t) : t.delivered = s.delivered := by cases h <;> rfl

theorem UnitEffect.params (h : UnitEffect i s t) : t.params = s.params := by cases h <;> rfl

theorem UnitEffect.inp (h : UnitEffect i s t) : t.inp = s.inp := by cases h <;> rfl

theorem UnitEffect.pending (h : UnitEffect i s t) : t.pending = s.pending := by cases h <;> rfl

theorem UnitEffect.pitFollows (h : UnitEffect i s t) : s.pit.Follows t.pit := by
  cases h with
  | pic => exact .refl _
  | pit _ _ follows => exact follows
  | cmos => exact .refl _

theorem UnitEffect.cmosFollows (h : UnitEffect i s t) : s.cmos.Follows t.cmos := by
  cases h with
  | pic => exact .refl _
  | pit => exact .refl _
  | cmos _ _ follows => exact follows

theorem UnitEffect.servesNoMore (h : UnitEffect i s t) : s.pic.ServesNoMore t.pic := by
  cases h with
  | pic _ _ serves => exact serves
  | pit => exact .of_isr_eq rfl
  | cmos => exact .of_isr_eq rfl

/-- An instruction of one unit leaves the registers of the other two. -/
theorem UnitEffect.keeps_units {o : Option PortUnit} (h : UnitEffect i s t) (howner : ownerOfInstr i = o)
    (hsome : o.isSome = true) :
    (o ≠ some .pic → t.pic = s.pic) ∧ (o ≠ some .pit → t.pit = s.pit) ∧ (o ≠ some .cmos → t.cmos = s.cmos) := by
  obtain ⟨u, rfl⟩ := Option.isSome_iff_exists.1 hsome
  cases h with
  | pic owner =>
    rw [owner u howner]
    exact ⟨fun h => absurd rfl h, fun _ => rfl, fun _ => rfl⟩
  | pit owner =>
    rw [owner u howner]
    exact ⟨fun _ => rfl, fun h => absurd rfl h, fun _ => rfl⟩
  | cmos owner =>
    rw [owner u howner]
    exact ⟨fun _ => rfl, fun _ => rfl, fun h => absurd rfl h⟩

/-! ## What a step keeps -/

theorem StepEffect.log (h : StepEffect s t) : Logs s.diag t.diag := by
  cases h with
  | quiet h => obtain ⟨d, l, x, r, n, hlog, rfl⟩ := h; exact hlog
  | unit r rest i h => exact h.log
  | poll r rest h =>
    cases h with
    | nothing collected => exact .inl collected.diag
    | granted collected => exact .inl collected.diag

theorem StepEffect.params (h : StepEffect s t) : t.params = s.params := by
  cases h with
  | quiet h => obtain ⟨d, l, x, r, n, -, rfl⟩ := h; rfl
  | unit r rest i h => exact h.params
  | poll r rest h =>
    cases h with
    | nothing collected => exact collected.params
    | granted collected => exact collected.params

/-- A step goes forward on the PIT and on the CMOS, whichever unit it works on. -/
theorem StepEffect.follows (h : StepEffect s t) : s.pit.Follows t.pit ∧ s.cmos.Follows t.cmos := by
  cases h with
  | quiet h => obtain ⟨d, l, x, r, n, -, rfl⟩ := h; exact ⟨.refl _, .refl _⟩
  | unit r rest i h => exact ⟨h.pitFollows, h.cmosFollows⟩
  | poll r rest h =>
    cases h with
    | nothing collected => exact ⟨collected.pit, collected.cmos⟩
    | granted collected => exact ⟨collected.pit, collected.cmos⟩

/-- The step granted IRQ i: under single nesting nothing was in service, the line was not masked, and no other IRQ
entered service. -/
def Granted (s t : State) (i : Irq) : Prop :=
  (s.params.nesting = .single → s.pic.isr = 0x00#8) ∧ irqBit s.pic.imr i = false ∧
  ∀ j : Irq, irqBit t.pic.isr j = true → irqBit s.pic.isr j = true ∨ j = i

theorem granted_of_winner {u : State} {i : Irq} (hu : Collected s u) (h : u.pic.resolve s.params.nesting = some i)
    (r : Ret) : Granted s (State.grant { u with ret := r } i) i := by
  obtain ⟨-, hfree, -, hmask⟩ := Pic.resolve_some _ _ _ h
  refine ⟨fun hsingle => ?_, hu.imr ▸ hmask, fun j hj => ?_⟩
  · rw [hsingle, Pic.blocked_single_eq_false_iff, hu.isr] at hfree
    exact hfree
  · rw [State.grant_pic, Pic.irqBit_grant_isr, Bool.or_eq_true, Bool.and_eq_true, beq_iff_eq] at hj
    exact hj.imp (fun hold => hu.isr ▸ hold) fun ⟨_, hnew⟩ => hnew

/-- An IRQ enters service, and a vector is delivered, only where a poll grants. -/
theorem StepEffect.serves_or_grants (h : StepEffect s t) :
    (s.pic.ServesNoMore t.pic ∧ t.delivered = s.delivered) ∨ ∃ i : Irq, Granted s t i := by
  cases h with
  | quiet h => obtain ⟨d, l, x, r, n, -, rfl⟩ := h; exact .inl ⟨.of_isr_eq rfl, rfl⟩
  | unit r rest i h => exact .inl ⟨h.servesNoMore, h.delivered⟩
  | poll r rest h =>
    cases h with
    | nothing collected => exact .inl ⟨.of_isr_eq collected.isr, collected.delivered⟩
    | granted collected i winner => exact .inr ⟨i, granted_of_winner collected winner _⟩

end

/-! ## The statements about every step -/

/-- Settles O6: the effect of a step gives its next state. -/
theorem noStepFaults : Obligations.NoStepFaults := fun s => (step_effect s).imp fun _ h => h.1

/-- Settles O9, from what a step can do to the log. -/
theorem stepAppendsAtMostOneDiagnostic : Obligations.StepAppendsAtMostOneDiagnostic :=
  fun _ _ h => (stepEffect_of_next h).log

/-- Settles O11, from what a step can do. -/
theorem stepKeepsTheParameters : Obligations.StepKeepsTheParameters := fun _ _ h => (stepEffect_of_next h).params

/-- Settles O12: a step goes forward on both units. -/
theorem reconciliationTimesNeverDecrease : Obligations.ReconciliationTimesNeverDecrease := by
  intro s t h
  obtain ⟨hpit, hcmos⟩ := (stepEffect_of_next h).follows
  exact ⟨hpit.last, hcmos.lastMono⟩

/-- Settles O17: a step goes forward on the PIT, so within its invariants. -/
theorem stepKeepsThePitInvariants : Obligations.StepKeepsThePitInvariants := by
  intro s t hgood h
  obtain ⟨hpit, -⟩ := (stepEffect_of_next h).follows
  exact hpit.good hgood

/-- Settles O19: a step goes forward on the CMOS, so its line stays lawful. -/
theorem stepKeepsTheLineLawful : Obligations.StepKeepsTheLineLawful := by
  intro s t hline h
  obtain ⟨-, hcmos⟩ := (stepEffect_of_next h).follows
  exact hcmos.line hline

/-- Settles O18: a grant under single nesting finds nothing in service, and no other operation sets a bit. -/
theorem stepKeepsOneIrqInService : Obligations.StepKeepsOneIrqInService := by
  intro s t hgood h hsingle i j hi hj
  have heff := stepEffect_of_next h
  have hs : s.params.nesting = .single := heff.params ▸ hsingle
  obtain ⟨hserves, -⟩ | ⟨k, hempty, -, hk⟩ := heff.serves_or_grants
  · exact hgood hs i j (hserves i hi) (hserves j hj)
  · have honly : ∀ l : Irq, irqBit t.pic.isr l = true → l = k := by
      intro l hl
      refine (hk l hl).resolve_left fun hold => ?_
      rw [hempty hs, irqBit_zero] at hold
      exact absurd hold nofun
    rw [honly i hi, honly j hj]

/-- Settles O34: a vector is delivered only by a grant, which finds nothing in service. -/
theorem singleNestingHoldsBackEveryGrant : Obligations.SingleNestingHoldsBackEveryGrant := by
  intro s t hsingle hisr h
  obtain ⟨-, hdelivered⟩ | ⟨i, hempty, -, -⟩ := (stepEffect_of_next h).serves_or_grants
  · exact hdelivered
  · exact absurd (hempty hsingle) hisr

/-- Settles O35: an IRQ that enters service was granted, so its line was not masked. -/
theorem maskedLineNeverEntersService : Obligations.MaskedLineNeverEntersService := by
  intro s t n h hmasked _ hout
  rw [← Bool.not_eq_true] at hout ⊢
  intro hin
  obtain ⟨hserves, -⟩ | ⟨i, -, hunmasked, hi⟩ := (stepEffect_of_next h).serves_or_grants
  · exact hout (hserves n hin)
  · obtain rfl : n = i := (hi n hin).resolve_left hout
    exact absurd (hmasked.symm.trans hunmasked) nofun

/-- Settles O10: a rejected access only logs, and an instruction works on the unit that owns its port. -/
theorem accessTouchesOnlyItsUnit : Obligations.AccessTouchesOnlyItsUnit := by
  intro s t a ht
  obtain h | ⟨code, -, h⟩ | ⟨i, hi, h⟩ := performAccess_cases a s
  · obtain rfl : s = t := Host.Outcome.next.inj (h.symm.trans ht)
    exact ⟨fun _ => rfl, fun _ => rfl, fun _ => rfl, rfl, rfl, rfl, rfl⟩
  · obtain rfl := Host.Outcome.next.inj (h.symm.trans ht)
    rw [State.rejectAccess_eq]
    exact ⟨fun _ => rfl, fun _ => rfl, fun _ => rfl, rfl, rfl, rfl, rfl⟩
  · obtain ⟨u, hu, heff⟩ := acts_of_decode hi s
    obtain rfl : u = t := Host.Outcome.next.inj (hu.symm.trans (h.symm.trans ht))
    obtain ⟨hpic, hpit, hcmos⟩ := heff.keeps_units (ownerOfInstr_of_decode hi) (ownerOf_isSome_of_decode hi)
    exact ⟨hpic, hpit, hcmos, heff.params, heff.inp, heff.pending, heff.delivered⟩

/-- Settles O36: an effect on one unit moves the base only where the instruction rotates, and the grant only under AEOI
with rotation on. -/
theorem baseMovesOnlyByRotation : Obligations.BaseMovesOnlyByRotation := by
  intro i s t ht hne
  obtain hacts | rfl | ⟨k, rfl⟩ := acts_or_poll i
  · obtain ⟨u, hu, heff⟩ := hacts s
    obtain rfl : u = t := Host.Outcome.next.inj (hu.symm.trans ht)
    cases heff with
    | pic _ _ _ base =>
      obtain hfive | hsix | hseven := base.resolve_left hne
      · exact .inl hfive
      · exact .inr (.inl hsix)
      · exact .inr (.inr (.inl hseven))
    | pit => exact absurd rfl hne
    | cmos => exact absurd rfl hne
  · obtain rfl : s.pollLines = t := Host.Outcome.next.inj ht
    exact absurd s.collected_pollLines.base hne
  · obtain rfl : s.grant k = t := Host.Outcome.next.inj ht
    refine .inr (.inr (.inr ⟨k, rfl, ?_⟩))
    by_contra hrot
    exact hne ((s.pic.grant_base k).trans (if_neg hrot))

end Sys2Proof.Machine
end

section
/-!
PROOFS. One step of a given operation (20_memory R73): a port access that decodes, one that is rejected, and a poll; and
the statements that say what these steps do.
-/
namespace Sys2Proof.Machine

/-! ## The word of an access as a number (30_encoding R90) -/

theorem toNat_writeWord (p : Port) (v : Byte) : (writeWord p v).toNat = 0x1000000 + p.toNat * 256 + v.toNat := by
  have hp : p.toNat < 2 ^ 16 := p.isLt
  have hv : v.toNat < 2 ^ 8 := v.isLt
  have h : (writeWord p v).toNat = (((1#1).toNat <<< 16 ||| p.toNat) <<< 8 ||| v.toNat) := by
    rw [← BitVec.toNat_append, ← BitVec.toNat_append]; rfl
  rw [h, ← Nat.shiftLeft_add_eq_or_of_lt hp, ← Nat.shiftLeft_add_eq_or_of_lt hv, Nat.shiftLeft_eq, Nat.shiftLeft_eq]
  simp only [BitVec.toNat_ofNat]
  omega

theorem toNat_readWord (p : Port) : (readWord p).toNat = p.toNat * 256 := by
  have hp : p.toNat < 2 ^ 16 := p.isLt
  have h : (readWord p).toNat = (((0#1).toNat <<< 16 ||| p.toNat) <<< 8 ||| (0#8).toNat) := by
    rw [← BitVec.toNat_append, ← BitVec.toNat_append]; rfl
  rw [h, ← Nat.shiftLeft_add_eq_or_of_lt hp, Nat.shiftLeft_eq, Nat.shiftLeft_eq]
  simp

/-- Of a value wider than a byte the low 8 bits are written (log 10). -/
theorem accessWord_eq_ofNat (a : PortAccess) : accessWord a = BitVec.ofNat 25 (if a.dir = .write
    then 0x1000000 + a.port.toNat * 256 + a.value.toNat % 256 else a.port.toNat * 256) := by
  have hp : a.port.toNat < 65536 := a.port.isLt
  apply BitVec.eq_of_toNat_eq
  rw [BitVec.toNat_ofNat]
  unfold accessWord
  cases a.dir with
  | write =>
    rw [if_pos rfl, toNat_writeWord, BitVec.toNat_setWidth]
    omega
  | read =>
    rw [if_neg nofun, toNat_readWord]
    omega

/-! ## The step of an issued operation -/

section

variable {s : State} {inp : Inputs} {rest : List Request}

theorem step_of_issues {c : Call} (h : s.Issues c inp rest) : step s = perform c (s.accept ⟨c, inp⟩ rest) := by
  simp only [step, stepState, h]

/-- A one-byte access that decodes runs its instruction. -/
theorem step_of_decode {a : PortAccess} {i : Instr} (h : s.Issues (.port a) inp rest) (hsize : a.size = 1)
    (hi : decode s.ctx (accessWord a) = .ok i) : step s = exec i (s.accept ⟨.port a, inp⟩ rest) := by
  have hctx : (s.accept ⟨.port a, inp⟩ rest).ctx = s.ctx := rfl
  rw [step_of_issues h, perform, performAccess, ownerOf_isSome_of_decode hi, Bool.true_or, if_pos rfl, if_pos hsize,
    performByte, hctx, hi]

/-- A port write that decodes (00_scope R10). -/
theorem step_out {p : Port} {v : Byte} {i : Instr} (h : s.pending = ⟨.port (outAccess p v), inp⟩ :: rest)
    (hi : decodeWrite s.ctx p v = .ok i) : step s = exec i (s.accept ⟨.port (outAccess p v), inp⟩ rest) := by
  have hword : accessWord (outAccess p v) = writeWord p v := by
    simp [accessWord, outAccess, BitVec.setWidth_setWidth_of_le]
  exact step_of_decode h rfl (by rw [hword, decode_writeWord, hi])

/-- A port read that decodes (00_scope R10). -/
theorem step_in {p : Port} {i : Instr} (h : s.pending = ⟨.port (inAccess p), inp⟩ :: rest)
    (hi : decodeRead s.ctx p = .ok i) : step s = exec i (s.accept ⟨.port (inAccess p), inp⟩ rest) :=
  step_of_decode h rfl ((decode_readWord s.ctx p).trans hi)

/-- A rejected access is the record the rules of 40_port_contract give. -/
theorem rejectAccess_accept {code : DiagCode} (r : Request) (a : PortAccess) :
    (s.accept r rest).rejectAccess code a = { s with
      pending := rest
      inp := r.inp
      diag := s.diag ++ [⟨code, some a.port⟩]
      ret := if a.dir = .read then .byte (Config.noValue s.draws) else .nothing
      draws := if a.dir = .read then s.draws + 1 else s.draws } := State.rejectAccess_eq _ _ _

end

/-- The three phases of `poll()` (41_pic R162 to R164). -/
theorem performPoll_phases (s : State) : ∃ u w : State, exec .hostPollAttachedDevices s = .next u ∧
    exec .hostPollResolve u = .next w ∧ performPoll s = finishPoll w := ⟨_, _, rfl, rfl, rfl⟩

/-- Phase 3 runs for a winner, and only then (41_pic R164). -/
theorem finishPoll_of_winner {w : State} {i : Irq} (h : w.ret = .winner (some i)) :
    finishPoll w = exec (.hostPollGrant i) w := by
  simp only [finishPoll, h]

theorem finishPoll_of_no_winner {w : State} (h : w.ret = .winner none) :
    finishPoll w = .next { w with ret := .vector none } := by
  simp only [finishPoll, h]

/-- Settles O5, clause by clause: the word, the decode context, and the step of each call. -/
theorem stepRunsTheIssuedOperation : Obligations.StepRunsTheIssuedOperation := by
  refine ⟨accessWord_eq_ofNat, fun _ => rfl, ?access, ?pushIrq, ?attach, ?poll, ?idle⟩
  case access => exact fun s a inp rest i h _ hsize hi => step_of_decode h hsize hi
  case pushIrq => exact fun s inp rest n h => step_of_issues h
  case attach => exact fun s inp rest n d h => step_of_issues h
  case poll =>
    intro s inp rest h
    obtain ⟨u, w, hcollect, hresolve, hfinish⟩ := performPoll_phases (s.accept ⟨.poll, inp⟩ rest)
    have hstep : step s = finishPoll w := (step_of_issues h).trans hfinish
    rw [hstep]
    exact ⟨u, w, hcollect, hresolve, fun _ => finishPoll_of_winner, finishPoll_of_no_winner⟩
  case idle =>
    intro s h
    simp only [step, stepState, h]

/-- Settles O7: the size is checked where the port has been routed. -/
theorem wrongSizeIsDiagnosedOnly : Obligations.WrongSizeIsDiagnosedOnly := by
  intro s a inp rest h hrouted hsize
  have hreach : ((ownerOf a.port).isSome || routedBeyond s.params a.port) = true := Bool.or_eq_true _ _ ▸ hrouted
  rw [step_of_issues h, perform, performAccess, State.accept_params, if_pos hreach, if_neg hsize, rejectAccess_accept]

/-- Settles O8: a port of no unit is not routed, or routed to a unit that has no register there. -/
theorem foreignPortsChangeNothing : Obligations.ForeignPortsChangeNothing := by
  refine ⟨fun p => ⟨ownerOf_eq_pic_iff p, ownerOf_eq_pit_iff p, ownerOf_eq_cmos_iff p⟩, ?_⟩
  intro s a inp rest h hforeign
  rw [step_of_issues h, perform, performAccess, State.accept_params, hforeign]
  refine ⟨fun hout => ?unrouted, fun hrouted hsize => ?routed⟩
  case unrouted => rw [hout]; rfl
  case routed =>
    have hdec : decode (s.accept ⟨.port a, inp⟩ rest).ctx (accessWord a) = .error (.noRegister a.port) := by
      obtain ⟨hp, -⟩ | ⟨-, herr⟩ := decode_cases (s.accept ⟨.port a, inp⟩ rest).ctx (accessWord a)
      · rw [port_accessWord, ← ownerOf_isSome_iff, hforeign] at hp
        exact absurd hp nofun
      · rwa [port_accessWord] at herr
    rw [hrouted, Bool.or_true, if_pos rfl, if_pos hsize, performByte, hdec]
    exact congrArg Host.Outcome.next (rejectAccess_accept _ a)

end Sys2Proof.Machine
end

section
/-!
PROOFS. The statements about several steps: the initialization sequence of the PIC (70_reset_and_hazards R312), the
programming of a channel and its latched read (R313), and the read-back of the status bytes (43_cmos_rtc R256, R257).
-/
namespace Sys2Proof.Machine

/-! ## The initialization sequence (70_reset_and_hazards R312, 30_encoding R117) -/

/-- The step leaves the PIC as `p`, the other units and the log as they were, and `rest` to be performed. -/
def StepsPicTo (s : State) (p : Pic) (rest : List Request) (t : State) : Prop :=
  step s = .next t ∧ t.pic = p ∧ t.pit = s.pit ∧ t.cmos = s.cmos ∧ t.diag = s.diag ∧ t.pending = rest

section

variable {s : State} {v : Byte} {inp : Inputs} {rest : List Request}

theorem step_icw1 (h : s.pending = ⟨.port (outAccess 0x20#16 v), inp⟩ :: rest) (hv : v.getLsbD 4 = true) :
    ∃ t, StepsPicTo s { s.pic with cascade := !v.getLsbD 1, icw4 := v.getLsbD 0, init := .waitIcw2 } rest t := by
  have hrow : decodePicCommand v =
      .picIcw1 (v.extractLsb' 5 3) (v.getLsbD 3) (v.getLsbD 2) (v.getLsbD 1) (v.getLsbD 0) := if_pos hv
  have hdec := (decodeWrite_picCommand s.ctx v).trans (congrArg Except.ok hrow)
  exact ⟨_, step_out h hdec, rfl, rfl, rfl, rfl, rfl⟩

theorem decodeWrite_of_init {init : InitState} (h : s.pic.init = init) (v : Byte) :
    decodeWrite s.ctx 0x21#16 v = .ok (decodePicData init v) := by
  rw [← h]; rfl

theorem step_icw2 (h : s.pending = ⟨.port (outAccess 0x21#16 v), inp⟩ :: rest) (hinit : s.pic.init = .waitIcw2) :
    ∃ t, StepsPicTo s { s.pic with
      vbase := v
      init := if s.pic.cascade then .waitIcw3 else if s.pic.icw4 then .waitIcw4 else .idle } rest t :=
  ⟨_, step_out h (decodeWrite_of_init hinit v), rfl, rfl, rfl, rfl, rfl⟩

theorem step_icw3 (h : s.pending = ⟨.port (outAccess 0x21#16 v), inp⟩ :: rest) (hinit : s.pic.init = .waitIcw3) :
    ∃ t, StepsPicTo s { s.pic with init := if s.pic.icw4 then .waitIcw4 else .idle } rest t :=
  ⟨_, step_out h (decodeWrite_of_init hinit v), rfl, rfl, rfl, rfl, rfl⟩

theorem step_icw4 (h : s.pending = ⟨.port (outAccess 0x21#16 v), inp⟩ :: rest) (hinit : s.pic.init = .waitIcw4) :
    ∃ t, StepsPicTo s { s.pic with aeoi := v.getLsbD 1, init := .idle } rest t :=
  ⟨_, step_out h (decodeWrite_of_init hinit v), rfl, rfl, rfl, rfl, rfl⟩

/-- ICW1 and ICW2 begin every sequence; what the PIC waits for then is told by SNGL and IC4. -/
theorem steps_icw1_icw2 {b2 : Byte} {i1 i2 : Inputs} (hv : v.getLsbD 4 = true)
    (h : s.pending = ⟨.port (outAccess 0x20#16 v), i1⟩ :: ⟨.port (outAccess 0x21#16 b2), i2⟩ :: rest) :
    ∃ t1 t2, step s = .next t1 ∧ StepsPicTo t1 { s.pic with
      cascade := !v.getLsbD 1
      icw4 := v.getLsbD 0
      vbase := b2
      init := if v.getLsbD 1 = false then .waitIcw3 else if v.getLsbD 0 then .waitIcw4 else .idle } rest t2 ∧
      t2.pit = s.pit ∧ t2.cmos = s.cmos ∧ t2.diag = s.diag := by
  obtain ⟨t1, hstep1, hpic1, hpit1, hcmos1, hdiag1, hpend1⟩ := step_icw1 h hv
  have hinit1 : t1.pic.init = .waitIcw2 := by rw [hpic1]
  obtain ⟨t2, hstep2, hpic2, hpit2, hcmos2, hdiag2, hpend2⟩ := step_icw2 hpend1 hinit1
  refine ⟨t1, t2, hstep1, ⟨hstep2, ?_, hpit2, hcmos2, hdiag2, hpend2⟩, hpit2.trans hpit1, hcmos2.trans hcmos1,
    hdiag2.trans hdiag1⟩
  rw [hpic2, hpic1]
  cases v.getLsbD 1 <;> rfl

end

/-- Settles O22, by SNGL and IC4. -/
theorem initSequenceCapturesTheDataPort : Obligations.InitSequenceCapturesTheDataPort := by
  intro s v b2 b3 b4 i1 i2 i3 i4 rest hv
  refine ⟨fun hsngl hic4 h => ?both, fun hsngl hic4 h => ?icw3Only, fun hsngl hic4 h => ?icw4Only,
    fun hsngl hic4 h => ?neither⟩
  all_goals
    obtain ⟨t1, t2, hstep1, ⟨hstep2, hpic2, -, -, -, hpend2⟩, hpit2, hcmos2, hdiag2⟩ := steps_icw1_icw2 hv h
    rw [hsngl, hic4] at hpic2
  case both =>
    obtain ⟨t3, hstep3, hpic3, hpit3, hcmos3, hdiag3, hpend3⟩ := step_icw3 hpend2 (by rw [hpic2]; rfl)
    obtain ⟨t4, hstep4, hpic4, hpit4, hcmos4, hdiag4, hpend4⟩ := step_icw4 hpend3 (by rw [hpic3, hpic2]; rfl)
    exact ⟨t1, t2, t3, t4, hstep1, hstep2, hstep3, hstep4, by rw [hpic4, hpic3, hpic2]; rfl,
      hpit4.trans (hpit3.trans hpit2), hcmos4.trans (hcmos3.trans hcmos2), hdiag4.trans (hdiag3.trans hdiag2), hpend4⟩
  case icw3Only =>
    obtain ⟨t3, hstep3, hpic3, hpit3, hcmos3, hdiag3, hpend3⟩ := step_icw3 hpend2 (by rw [hpic2]; rfl)
    exact ⟨t1, t2, t3, hstep1, hstep2, hstep3, by rw [hpic3, hpic2]; rfl,
      hpit3.trans hpit2, hcmos3.trans hcmos2, hdiag3.trans hdiag2, hpend3⟩
  case icw4Only =>
    obtain ⟨t3, hstep3, hpic3, hpit3, hcmos3, hdiag3, hpend3⟩ := step_icw4 hpend2 (by rw [hpic2]; rfl)
    exact ⟨t1, t2, t3, hstep1, hstep2, hstep3, by rw [hpic3, hpic2]; rfl,
      hpit3.trans hpit2, hcmos3.trans hcmos2, hdiag3.trans hdiag2, hpend3⟩
  case neither => exact ⟨t1, t2, hstep1, hstep2, by rw [hpic2]; rfl, hpit2, hcmos2, hdiag2, hpend2⟩

/-! ## A channel in LOHI access mode (70_reset_and_hazards R313, R316, R317) -/

theorem State.ctx_chan (s : State) (k : PitChan) : s.ctx.chan k = (s.pit.chan k).ctx := by cases k <;> rfl

/-- What a reconciliation leaves of a channel (42_pit R183). -/
theorem Pit.reconcile_access (p : Pit) (now : Nat) (k : PitChan) :
    ((p.reconcile now).chan k).access = (p.chan k).access := congrArg ChanCtx.access (p.reconcile_ctx now k)

theorem Pit.reconcile_cursor (p : Pit) (now : Nat) (k : PitChan) :
    ((p.reconcile now).chan k).cursor = (p.chan k).cursor := congrArg ChanCtx.cursor (p.reconcile_ctx now k)

theorem Pit.reconcile_latchLeft (p : Pit) (now : Nat) (k : PitChan) :
    ((p.reconcile now).chan k).latchLeft = (p.chan k).latchLeft := congrArg ChanCtx.latchLeft (p.reconcile_ctx now k)

theorem Pit.reconcile_reload (p : Pit) (now : Nat) (k : PitChan) :
    ((p.reconcile now).chan k).reload = (p.chan k).reload := by
  obtain ⟨-, -, -, hframe⟩ := reconciliationKeepsTheConfiguration p now
  rw [hframe k]

theorem Pit.reconcile_latchVal (p : Pit) (now : Nat) (k : PitChan) :
    ((p.reconcile now).chan k).latchVal = (p.chan k).latchVal := by
  obtain ⟨-, -, -, hframe⟩ := reconciliationKeepsTheConfiguration p now
  rw [hframe k]

section

variable {s : State} {k : PitChan} {inp : Inputs} {rest : List Request}

/-- The low byte of a count: it is stored, and the cursor moves (42_pit R192). -/
theorem step_writeLow {v : Byte} (h : s.pending = ⟨.port (outAccess (dataPort k) v), inp⟩ :: rest)
    (ha : (s.pit.chan k).access = .lohi) (hc : (s.pit.chan k).cursor = .low) :
    step s = .next ((s.accept ⟨.port (outAccess (dataPort k) v), inp⟩ rest).onChannel k (·.writeLow v)) := by
  have hrow : dataWrite k (s.ctx.chan k) v = pitWriteLohiLow k v := by
    rw [State.ctx_chan]
    exact dataWrite_of_low ((ChanCtx.writesLow_iff _).2 ⟨ha, hc⟩) k v
  rw [step_out h (decodeWrite_dataPort s.ctx v k), hrow, exec_pitWriteLohiLow]

/-- The high byte of a count: it completes the reload and starts the count (42_pit R193). -/
theorem step_writeHigh {v : Byte} (h : s.pending = ⟨.port (outAccess (dataPort k) v), inp⟩ :: rest)
    (ha : (s.pit.chan k).access = .lohi) (hc : (s.pit.chan k).cursor = .high) :
    step s = .next ((s.accept ⟨.port (outAccess (dataPort k) v), inp⟩ rest).onChannel k (·.writeHigh v)) := by
  have hrow : dataWrite k (s.ctx.chan k) v = pitWriteLohiHigh k v := by
    rw [State.ctx_chan]
    exact dataWrite_of_high ((ChanCtx.writesHigh_iff _).2 ⟨ha, hc⟩) k v
  rw [step_out h (decodeWrite_dataPort s.ctx v k), hrow, exec_pitWriteLohiHigh]

/-- A read of the data port while a latch is held (42_pit R196). -/
theorem step_readLatched (h : s.pending = ⟨.port (inAccess (dataPort k)), inp⟩ :: rest)
    (hl : 0 < (s.pit.chan k).latchLeft) :
    step s = .next ((s.accept ⟨.port (inAccess (dataPort k)), inp⟩ rest).readChannel k Channel.readLatched) := by
  have hrow : dataRead k (s.ctx.chan k) = pitReadLatched k := by
    rw [State.ctx_chan]
    exact dataRead_of_pos hl k
  rw [step_in h (decodeRead_dataPort s.ctx k), hrow, exec_pitReadLatched]

end

/-- The low byte of the reload after the low byte of a count was written. -/
theorem Channel.writeLow_reload_mod (c : Channel) (v : Byte) : (c.writeLow v).reload.toNat % 256 = v.toNat := by
  have hv : v.toNat < 256 := v.isLt
  rw [Channel.writeLow_eq, BitVec.toNat_ofNat]
  omega

/-- Settles O47: whatever is counted between the two writes, the reload keeps the low byte. -/
theorem programmingAChannelStartsItsCount : Obligations.ProgrammingAChannelStartsItsCount := by
  intro s k lo hi i1 i2 rest ha hc h
  have hstep1 := step_writeLow h ha hc
  generalize ht1 : State.onChannel _ k _ = t1 at hstep1
  have hchan1 : t1.pit.chan k = ((s.pit.reconcile i1.mono).chan k).writeLow lo := by
    rw [← ht1, State.onChannel_pit, Pit.chan_setChan]; rfl
  have ha1 : (t1.pit.chan k).access = .lohi := by rw [hchan1]; exact (s.pit.reconcile_access i1.mono k).trans ha
  have hc1 : (t1.pit.chan k).cursor = .high := by rw [hchan1]; rfl
  have hpend1 : t1.pending = ⟨.port (outAccess (dataPort k) hi), i2⟩ :: rest := by rw [← ht1]; rfl
  have hstep2 := step_writeHigh hpend1 ha1 hc1
  generalize ht2 : State.onChannel _ k _ = t2 at hstep2
  have hlow : ((t1.pit.reconcile i2.mono).chan k).reload.toNat % 256 = lo.toNat := by
    rw [Pit.reconcile_reload, hchan1, Channel.writeLow_reload_mod]
  have hcount : hi.toNat * 256 + lo.toNat < 65536 := by
    have hhi : hi.toNat < 256 := hi.isLt
    have hlo : lo.toNat < 256 := lo.isLt
    omega
  have hchan2 : t2.pit.chan k = ((t1.pit.reconcile i2.mono).chan k).writeHigh hi := by
    rw [← ht2, State.onChannel_pit, Pit.chan_setChan]; rfl
  rw [Channel.writeHigh_eq, hlow] at hchan2
  refine ⟨t1, t2, hstep1, hstep2, ?_⟩
  rw [hchan2]
  refine ⟨rfl, toNat_count_ofNat hcount, rfl, rfl, ?_⟩
  rw [← ht2, ← ht1]
  exact ⟨rfl, rfl, rfl, rfl⟩

/-! ## The latched read (42_pit R187, R196) -/

/-- A control byte that names channel k and has RW = 00 is that channel's latch command (30_encoding R103). -/
theorem decodePitControl_of_latch {k : PitChan} {v : Byte} (hk : v.toNat / 64 + 0x40 = (dataPort k).toNat)
    (hrw : v.toNat / 16 % 4 = 0) : decodePitControl v = pitCtlLatch k (v.extractLsb' 0 4) := by
  have hlatch : ∀ v : Byte, v.toNat / 16 % 4 = 0 → v.extractLsb' 4 2 = 0b00#2 := by decide
  have hchan : ∀ v : Byte, v.toNat / 64 + 0x40 = (dataPort k).toNat → v.extractLsb' 6 2 = k.toBits := by
    cases k <;> decide
  have hv := decodePitControl_latch k (v.extractLsb' 0 4)
  rwa [← hlatch v hrw, ← hchan v hk, latch_fields] at hv

theorem step_latch {s : State} {k : PitChan} {v : Byte} {inp : Inputs} {rest : List Request}
    (h : s.pending = ⟨.port (outAccess 0x43#16 v), inp⟩ :: rest) (hk : v.toNat / 64 + 0x40 = (dataPort k).toNat)
    (hrw : v.toNat / 16 % 4 = 0) :
    step s = .next ((s.accept ⟨.port (outAccess 0x43#16 v), inp⟩ rest).onChannel k Channel.latch) := by
  rw [step_out h (decodeWrite_pitControl s.ctx v), decodePitControl_of_latch hk hrw, exec_pitCtlLatch]

/-- What a latched read in LOHI access mode leaves: the snapshot, one byte less of it, and the other cursor. -/
theorem Channel.readLatched_lohi {c : Channel} (ha : c.access = .lohi) : c.readLatched =
    (BitVec.ofNat 8 (if c.cursor = .high then c.latchVal.toNat / 256 else c.latchVal.toNat % 256),
      { c with latchLeft := c.latchLeft - 1, cursor := if c.cursor = .high then .low else .high }) := by
  have hhigh : (c.readsHigh = true) = (c.cursor = .high) := by simp [Channel.readsHigh_iff, ha]
  simp only [Channel.readLatched_eq, hhigh, ha, if_true]

/-- A channel in LOHI access mode that holds `n` more bytes of the snapshot `val`, the next one at the cursor `cur`. -/
structure Channel.Holds (c : Channel) (val : Count) (n : Nat) (cur : Cursor) : Prop where
  access : c.access = .lohi
  latchVal : c.latchVal = val
  latchLeft : c.latchLeft = n
  cursor : c.cursor = cur

theorem Channel.Holds.reconcile {p : Pit} {k : PitChan} {val : Count} {n : Nat} {cur : Cursor}
    (h : (p.chan k).Holds val n cur) (now : Nat) : ((p.reconcile now).chan k).Holds val n cur :=
  ⟨(p.reconcile_access now k).trans h.access, (p.reconcile_latchVal now k).trans h.latchVal,
    (p.reconcile_latchLeft now k).trans h.latchLeft, (p.reconcile_cursor now k).trans h.cursor⟩

/-- A read of the data port takes one byte of the snapshot, whatever is counted before it. -/
theorem step_holds {s : State} {k : PitChan} {val : Count} {n : Nat} {cur : Cursor} {inp : Inputs} {rest : List Request}
    (h : s.pending = ⟨.port (inAccess (dataPort k)), inp⟩ :: rest) (hc : (s.pit.chan k).Holds val (n + 1) cur) :
    ∃ t, step s = .next t ∧
      t.ret = .byte (BitVec.ofNat 8 (if cur = .high then val.toNat / 256 else val.toNat % 256)) ∧
      (t.pit.chan k).Holds val n (if cur = .high then .low else .high) ∧ t.diag = s.diag ∧ t.pending = rest := by
  have hr := hc.reconcile inp.mono
  have hread := Channel.readLatched_lohi hr.access
  rw [hr.cursor, hr.latchVal] at hread
  refine ⟨_, step_readLatched h (by rw [hc.latchLeft]; exact Nat.succ_pos n), ?_, ?_, rfl, rfl⟩
  · rw [State.readChannel_ret, State.accept_pit, State.accept_inp, hread]
  · rw [State.readChannel_pit, Pit.chan_setChan, State.accept_pit, State.accept_inp, hread]
    exact ⟨hr.access, rfl, by rw [hr.latchLeft]; rfl, rfl⟩

/-- The two bytes of a snapshot are those of the count, of which 16 bits are taken. -/
theorem ofNat_low_countOf (n : Nat) : BitVec.ofNat 8 ((countOf n).toNat % 256) = BitVec.ofNat 8 n := by
  apply BitVec.eq_of_toNat_eq
  simp only [toNat_countOf, BitVec.toNat_ofNat]
  omega

theorem ofNat_high_countOf (n : Nat) : BitVec.ofNat 8 ((countOf n).toNat / 256) = BitVec.ofNat 8 (n / 256) := by
  apply BitVec.eq_of_toNat_eq
  simp only [toNat_countOf, BitVec.toNat_ofNat]
  omega

/-- Settles O51: the latch command takes the snapshot, and the two reads take its two bytes. -/
theorem latchedReadIsOneSnapshot : Obligations.LatchedReadIsOneSnapshot := by
  intro s k v i0 i1 i2 rest ha hc hl hk hrw h
  have hstep1 := step_latch h hk hrw
  generalize ht1 : State.onChannel _ k _ = t1 at hstep1
  have hpend1 : t1.pending = ⟨.port (inAccess (dataPort k)), i1⟩ :: ⟨.port (inAccess (dataPort k)), i2⟩ :: rest := by
    rw [← ht1]; rfl
  have hdiag1 : t1.diag = s.diag := by rw [← ht1]; rfl
  have hholds1 : (t1.pit.chan k).Holds (countOf ((s.pit.reconcile i0.mono).chan k).cur) (1 + 1) .low := by
    have hchan : t1.pit.chan k = ((s.pit.reconcile i0.mono).chan k).latch := by
      rw [← ht1, State.onChannel_pit, Pit.chan_setChan]; rfl
    have ha0 := (s.pit.reconcile_access i0.mono k).trans ha
    have hl0 := (s.pit.reconcile_latchLeft i0.mono k).trans hl
    rw [hchan, Channel.latch_eq, if_pos hl0, if_pos hl0, if_pos ha0]
    exact ⟨ha0, rfl, rfl, (s.pit.reconcile_cursor i0.mono k).trans hc⟩
  obtain ⟨t2, hstep2, hret2, hholds2, hdiag2, hpend2⟩ := step_holds hpend1 hholds1
  obtain ⟨t3, hstep3, hret3, hholds3, hdiag3, hpend3⟩ := step_holds hpend2 hholds2
  refine ⟨t1, t2, t3, hstep1, hstep2, hstep3, hret2.trans ?low, hret3.trans ?high, hholds3.latchLeft, hholds3.cursor,
    hdiag3.trans (hdiag2.trans hdiag1), hpend3⟩
  case low => exact congrArg Ret.byte (ofNat_low_countOf _)
  case high => exact congrArg Ret.byte (ofNat_high_countOf _)

/-! ## The status bytes (43_cmos_rtc R256, R257) -/

/-- Bit 7 of status A is not stored (43_cmos_rtc R247, R256). -/
theorem statusA_stored : ∀ v : Byte, (0#1 ++ v.extractLsb' 0 7 : Byte) = v &&& 0x7F#8 := by decide

/-- Bits 7, 3 and 0 of status B are not stored (43_cmos_rtc R248, R257). -/
theorem statusB_stored : ∀ v : Byte,
    flagAt (v.getLsbD 6) 6 ||| flagAt (v.getLsbD 5) 5 ||| flagAt (v.getLsbD 4) 4 ||| flagAt (v.getLsbD 2) 2 |||
      flagAt (v.getLsbD 1) 1 = v &&& 0x76#8 := by decide

section

variable {s : State} {inp : Inputs} {rest : List Request} {n : BitVec 7}

/-- A write of 0x71 runs the row that the index selects (43_cmos_rtc R252). -/
theorem step_cmosWrite {v : Byte} (h : s.pending = ⟨.port (outAccess 0x71#16 v), inp⟩ :: rest)
    (hn : s.cmos.index = n) :
    step s = exec (decodeCmosWrite n v) (s.accept ⟨.port (outAccess 0x71#16 v), inp⟩ rest) := by
  have hindex : s.ctx.index = n := hn
  rw [step_out h (decodeWrite_cmosData s.ctx v), hindex]

/-- A read of 0x71 runs the row that the index selects (43_cmos_rtc R232). -/
theorem step_cmosRead (h : s.pending = ⟨.port (inAccess 0x71#16), inp⟩ :: rest) (hn : s.cmos.index = n) :
    step s = exec (decodeCmosRead n) (s.accept ⟨.port (inAccess 0x71#16), inp⟩ rest) := by
  have hindex : s.ctx.index = n := hn
  rw [step_in h (decodeRead_cmosData s.ctx), hindex]

/-- A write of 0x71 that writes the CMOS by `f` and keeps the index, and then a read of it, which answers `g`. -/
theorem steps_cmosWrite_cmosRead {v : Byte} {inp' : Inputs} {f : Cmos → Cmos} {g : Cmos → Byte}
    (h : s.pending = ⟨.port (outAccess 0x71#16 v), inp⟩ :: ⟨.port (inAccess 0x71#16), inp'⟩ :: rest)
    (hn : s.cmos.index = n) (hwrite : ∀ u : State, exec (decodeCmosWrite n v) u = .next { u with cmos := f u.cmos })
    (hindex : ∀ c : Cmos, (f c).index = c.index)
    (hread : ∀ u : State, exec (decodeCmosRead n) u = .next (u.reply (g u.cmos))) :
    ∃ t1 t2, step s = .next t1 ∧ step t1 = .next t2 ∧ t2.ret = .byte (g (f s.cmos)) ∧ t2.diag = s.diag ∧
      t2.pending = rest := by
  have hstep1 := (step_cmosWrite h hn).trans (hwrite _)
  generalize ht1 : State.mk _ _ _ _ _ _ _ _ _ _ = t1 at hstep1
  have hpend1 : t1.pending = ⟨.port (inAccess 0x71#16), inp'⟩ :: rest := by rw [← ht1]; rfl
  have hn1 : t1.cmos.index = n := by rw [← ht1]; exact (hindex s.cmos).trans hn
  refine ⟨t1, _, hstep1, (step_cmosRead hpend1 hn1).trans (hread _), ?_⟩
  rw [← ht1]
  exact ⟨rfl, rfl, rfl⟩

end

/-- Settles O58, by the index: the write stores its bits and keeps the index, and the read finds both. -/
theorem statusBytesReadBack : Obligations.StatusBytesReadBack := by
  intro s v i1 i2 rest hindex h
  obtain hn | hn := hindex
  · rw [if_pos hn, ← statusA_stored]
    exact steps_cmosWrite_cmosRead (f := fun c => { c with rega := v.extractLsb' 0 7 }) (g := statusA) h hn
      (fun _ => rfl) (fun _ => rfl) fun _ => rfl
  · rw [if_neg (by rw [hn]; decide), ← statusB_stored]
    exact steps_cmosWrite_cmosRead (f := fun c => { c with
        pie := v.getLsbD 6, aie := v.getLsbD 5, uie := v.getLsbD 4, binary := v.getLsbD 2, h24 := v.getLsbD 1 })
      (g := statusB) h hn (fun _ => rfl) (fun _ => rfl) fun _ => rfl

end Sys2Proof.Machine
end

section
/-!
PROOFS. The poll and the grant of 41_pic: what phase 1 collects (R162), which request a poll delivers (R162 to R164),
the grant (R164), and that the specific EOI undoes it (R148).
-/
namespace Sys2Proof.Machine

/-! ## Phase 1, line by line (41_pic R162) -/

/-- A line below `n` has the device attached. -/
def attachedBelow (s : State) (d : Device) (n : Nat) : Bool :=
  irqLines.any fun j => decide (j.toNat < n) && deviceAt s.pic.attached j == some d

theorem attachedBelow_iff (s : State) (d : Device) (n : Nat) :
    attachedBelow s d n = true ↔ ∃ j : Irq, j.toNat < n ∧ deviceAt s.pic.attached j = some d := by
  simp [attachedBelow, mem_irqLines]

theorem attachedBelow_eq_false_iff (s : State) (d : Device) (n : Nat) :
    attachedBelow s d n = false ↔ ∀ j : Irq, j.toNat < n → deviceAt s.pic.attached j ≠ some d := by
  rw [← Bool.not_eq_true, attachedBelow_iff]
  push Not
  rfl

theorem attachedBelow_succ (s : State) (d : Device) (i : Irq) :
    attachedBelow s d (i.toNat + 1) = (attachedBelow s d i.toNat || deviceAt s.pic.attached i == some d) := by
  rw [Bool.eq_iff_iff, Bool.or_eq_true, attachedBelow_iff, attachedBelow_iff, beq_iff_eq]
  constructor
  · rintro ⟨j, hj, hd⟩
    obtain hlt | heq := Nat.lt_succ_iff_lt_or_eq.1 hj
    · exact .inl ⟨j, hlt, hd⟩
    · exact .inr (BitVec.eq_of_toNat_eq heq ▸ hd)
  · rintro (⟨j, hj, hd⟩ | hd)
    · exact ⟨j, Nat.lt_succ_of_lt hj, hd⟩
    · exact ⟨i, Nat.lt_succ_self _, hd⟩

/-- What the device of line i answers in phase 1: of the PIT and of the CMOS only the lowest line asks. -/
def lineAsks (s : State) (i : Irq) : Bool :=
  match deviceAt s.pic.attached i with
  | none => false
  | some .pit => (s.pit.poll s.inp.mono).1 && !attachedBelow s .pit i.toNat
  | some .cmos => (s.cmos.poll s.inp.wall s.inp.mono).1 && !attachedBelow s .cmos i.toNat
  | some (.ext _) => irqBit s.inp.ext i

section

variable {s : State} {i : Irq}

theorem lineAsks_none (h : deviceAt s.pic.attached i = none) : lineAsks s i = false := by simp only [lineAsks, h]

theorem lineAsks_pit (h : deviceAt s.pic.attached i = some .pit) :
    lineAsks s i = ((s.pit.poll s.inp.mono).1 && !attachedBelow s .pit i.toNat) := by simp only [lineAsks, h]

theorem lineAsks_cmos (h : deviceAt s.pic.attached i = some .cmos) :
    lineAsks s i = ((s.cmos.poll s.inp.wall s.inp.mono).1 && !attachedBelow s .cmos i.toNat) := by
  simp only [lineAsks, h]

theorem lineAsks_ext {d : Nat} (h : deviceAt s.pic.attached i = some (.ext d)) : lineAsks s i = irqBit s.inp.ext i := by
  simp only [lineAsks, h]

end

/-- The state `t` in which the lines below `n` have been polled, beginning in `s`. -/
structure PolledBelow (s : State) (n : Nat) (t : State) : Prop where
  attached : t.pic.attached = s.pic.attached
  imr : t.pic.imr = s.pic.imr
  inp : t.inp = s.inp
  pit : t.pit = if attachedBelow s .pit n = true then (s.pit.poll s.inp.mono).2 else s.pit
  cmos : t.cmos = if attachedBelow s .cmos n = true then (s.cmos.poll s.inp.wall s.inp.mono).2 else s.cmos
  irr : ∀ j : Irq, irqBit t.pic.irr j =
    (irqBit s.pic.irr j || (decide (j.toNat < n) && lineAsks s j && !irqBit s.pic.imr j))

section

variable {s t : State} {n : Nat}

theorem PolledBelow.zero (s : State) : PolledBelow s 0 s := by
  have hnone : ∀ d : Device, attachedBelow s d 0 = false := fun d =>
    (attachedBelow_eq_false_iff s d 0).2 fun _ h => absurd h (Nat.not_lt_zero _)
  refine ⟨rfl, rfl, rfl, ?_, ?_, fun j => ?_⟩
  · rw [hnone, if_neg nofun]
  · rw [hnone, if_neg nofun]
  · simp

/-- The PIT answers as it does in `s` if no line below has polled it, and else has nothing new. -/
theorem PolledBelow.pit_poll (h : PolledBelow s n t) : t.pit.poll s.inp.mono =
    ((s.pit.poll s.inp.mono).1 && !attachedBelow s .pit n, (s.pit.poll s.inp.mono).2) := by
  rw [h.pit]
  cases attachedBelow s .pit n with
  | false => simp
  | true => simp [Pit.poll_again]

theorem PolledBelow.cmos_poll (h : PolledBelow s n t) : t.cmos.poll s.inp.wall s.inp.mono =
    ((s.cmos.poll s.inp.wall s.inp.mono).1 && !attachedBelow s .cmos n, (s.cmos.poll s.inp.wall s.inp.mono).2) := by
  rw [h.cmos]
  cases attachedBelow s .cmos n with
  | false => simp
  | true => simp [Cmos.poll_again]

/-- The poll of the next line: its answer, and the two units after it. -/
theorem PolledBelow.pollDevice {i : Irq} (h : PolledBelow s i.toNat t) :
    (t.pollDevice i).1 = lineAsks s i ∧
    (t.pollDevice i).2.pit = (if attachedBelow s .pit (i.toNat + 1) = true then (s.pit.poll s.inp.mono).2 else s.pit) ∧
    (t.pollDevice i).2.cmos =
      (if attachedBelow s .cmos (i.toNat + 1) = true then (s.cmos.poll s.inp.wall s.inp.mono).2 else s.cmos) := by
  have hcases := t.pollDevice_cases i
  rw [h.attached, h.inp, h.pit_poll, h.cmos_poll] at hcases
  rw [attachedBelow_succ, attachedBelow_succ]
  obtain ⟨hd, hp⟩ | ⟨hd, hp⟩ | ⟨hd, hp⟩ | ⟨d, hd, hp⟩ := hcases <;> rw [hp, hd]
  · exact ⟨(lineAsks_none hd).symm, by simpa using h.pit, by simpa using h.cmos⟩
  · exact ⟨(lineAsks_pit hd).symm, by simp, by simpa using h.cmos⟩
  · exact ⟨(lineAsks_cmos hd).symm, by simpa using h.pit, by simp⟩
  · exact ⟨(lineAsks_ext hd).symm, by simpa using h.pit, by simpa using h.cmos⟩

theorem PolledBelow.succ {i : Irq} (h : PolledBelow s i.toNat t) : PolledBelow s (i.toNat + 1) (t.pollLine i) := by
  obtain ⟨hasks, hpit, hcmos⟩ := h.pollDevice
  rw [State.pollLine_eq, hasks]
  refine ⟨?attached, ?imr, h.inp, hpit, hcmos, fun j => ?irr⟩
  case attached => split <;> simp [h.attached]
  case imr => split <;> simp [h.imr]
  case irr =>
    have hbelow : decide (j.toNat < i.toNat + 1) = (decide (j.toNat < i.toNat) || j == i) := by
      rw [Bool.eq_iff_iff, Bool.or_eq_true, decide_eq_true_eq, decide_eq_true_eq, beq_iff_eq, ← BitVec.toNat_inj]
      omega
    have hline : irqBit (if lineAsks s i = true then t.pic.request i else t.pic).irr j =
        (irqBit t.pic.irr j || (j == i && lineAsks s i && !irqBit s.pic.imr i)) := by
      cases lineAsks s i with
      | false => simp
      | true => rw [if_pos rfl, Pic.irqBit_request_irr, h.imr, Bool.and_true]
    refine hline.trans ?_
    rw [h.irr j, hbelow]
    by_cases hj : j = i
    · subst hj; simp
    · rw [beq_eq_false_iff_ne.2 hj, Bool.false_and, Bool.false_and, Bool.or_false, Bool.or_false]

end

theorem polledBelow_pollLines (s : State) : PolledBelow s 8 s.pollLines := by
  have hsweep : ∀ n ≤ 8, PolledBelow s n (((List.range n).map (BitVec.ofNat 3)).foldl State.pollLine s) := by
    intro n hn
    induction n with
    | zero => exact .zero s
    | succ n ih =>
      have hi : (BitVec.ofNat 3 n).toNat = n := by rw [BitVec.toNat_ofNat]; omega
      rw [List.range_succ, List.map_append, List.foldl_append]
      have hnext := PolledBelow.succ (i := BitVec.ofNat 3 n) (by rw [hi]; exact ih (by omega))
      rwa [hi] at hnext
  rw [State.pollLines, irqLines_eq]
  exact hsweep 8 le_rfl

/-- What phase 1 leaves in IRR: the requests before it, and those of the unmasked lines whose device asks. -/
theorem irqBit_pollLines_irr (s : State) (j : Irq) :
    irqBit s.pollLines.pic.irr j = (irqBit s.pic.irr j || (lineAsks s j && !irqBit s.pic.imr j)) := by
  have hj : j.toNat < 8 := j.isLt
  rw [(polledBelow_pollLines s).irr j, decide_eq_true hj, Bool.true_and]

theorem attachedBelow_eight_of_attached {s : State} {d : Device} {i : Irq} (h : deviceAt s.pic.attached i = some d) :
    attachedBelow s d 8 = true := (attachedBelow_iff s d 8).2 ⟨i, i.isLt, h⟩

theorem attachedBelow_eight_of_unattached {s : State} {d : Device} (h : ∀ i : Irq, deviceAt s.pic.attached i ≠ some d) :
    attachedBelow s d 8 = false := (attachedBelow_eq_false_iff s d 8).2 fun i _ => h i

/-- Settles O30: phase 1 polls every line once, and the second poll of a unit finds nothing new. -/
theorem pollPhaseOneCollectsRequests : Obligations.PollPhaseOneCollectsRequests := by
  intro s
  have hirr := irqBit_pollLines_irr s
  have hpit := (polledBelow_pollLines s).pit
  have hcmos := (polledBelow_pollLines s).cmos
  have hframe := s.pollLines_eq
  generalize ht : s.pollLines = t at hirr hpit hcmos hframe
  have hstep : exec .hostPollAttachedDevices s = .next t := congrArg Host.Outcome.next ht
  refine ⟨t, _, _, _, _, hstep, exec_hostPitPollIrq s, rfl, exec_hostCmosPollIrq s, rfl, hframe, ?kept, ?new, ?ext,
    ?pitFirst, ?pitLater, ?pitPolled, ?pitIdle, ?cmosFirst, ?cmosLater, ?cmosPolled, ?cmosIdle⟩
  case kept =>
    intro i hi
    rw [hirr, hi, Bool.true_or]
  case new =>
    intro i hold hnew
    rw [hirr, hold, Bool.false_or, Bool.and_eq_true, Bool.not_eq_true'] at hnew
    refine ⟨hnew.2, fun hnone => ?_⟩
    exact absurd ((lineAsks_none hnone).symm.trans hnew.1) nofun
  case ext =>
    intro i d hd
    rw [hirr, lineAsks_ext hd]
  case pitFirst =>
    intro i hd hfirst
    rw [hirr, lineAsks_pit hd, (attachedBelow_eq_false_iff s .pit i.toNat).2 hfirst, Bool.not_false, Bool.and_true]
  case pitLater =>
    intro i j hd hj hjd
    rw [hirr, lineAsks_pit hd, (attachedBelow_iff s .pit i.toNat).2 ⟨j, hj, hjd⟩]
    simp
  case pitPolled =>
    intro i hd
    rw [hpit, if_pos (attachedBelow_eight_of_attached hd)]
  case pitIdle =>
    intro hnone
    rw [hpit, if_neg (ne_true_of_eq_false (attachedBelow_eight_of_unattached hnone))]
  case cmosFirst =>
    intro i hd hfirst
    rw [hirr, lineAsks_cmos hd, (attachedBelow_eq_false_iff s .cmos i.toNat).2 hfirst, Bool.not_false, Bool.and_true]
  case cmosLater =>
    intro i j hd hj hjd
    rw [hirr, lineAsks_cmos hd, (attachedBelow_iff s .cmos i.toNat).2 ⟨j, hj, hjd⟩]
    simp
  case cmosPolled =>
    intro i hd
    rw [hcmos, if_pos (attachedBelow_eight_of_attached hd)]
  case cmosIdle =>
    intro hnone
    rw [hcmos, if_neg (ne_true_of_eq_false (attachedBelow_eight_of_unattached hnone))]

/-! ## The whole poll (41_pic R162 to R164) -/

/-- Settles O33, by whether phase 2 names a winner. -/
theorem pollDeliversTheHighestRequest : Obligations.PollDeliversTheHighestRequest := by
  intro s inp rest h
  have hstep := (step_of_issues h).trans (performPoll_eq _)
  have hu := (s.accept ⟨.poll, inp⟩ rest).collected_pollLines
  have hcollect : exec .hostPollAttachedDevices (s.accept ⟨.poll, inp⟩ rest) =
    .next (s.accept ⟨.poll, inp⟩ rest).pollLines := rfl
  generalize (s.accept ⟨.poll, inp⟩ rest).pollLines = u at hstep hu hcollect
  cases hr : u.pic.resolve u.params.nesting with
  | none =>
    rw [hr] at hstep
    exact ⟨u, _, hcollect, hstep, .inl ⟨hr, rfl⟩⟩
  | some i =>
    rw [hr] at hstep
    obtain ⟨htop, -, hirr, himr⟩ := Pic.resolve_some _ _ _ hr
    refine ⟨u, _, hcollect, hstep, .inr ⟨i, hr, hirr, himr, fun j hj hmask => ?least, ?delivered, rfl, rfl, hu.diag⟩⟩
    case least => exact rank_top_le htop (by simp [hj, hmask])
    case delivered =>
      rw [State.grant_delivered, hu.delivered, hu.vbase]
      rfl

/-! ## The grant and its end (41_pic R148, R164) -/

/-- The grant writes IRR, ISR and the base of the PIC, and nothing else of it. -/
theorem Pic.grant_eq (p : Pic) (i : Irq) : p.grant i =
    { p with irr := (p.grant i).irr, isr := (p.grant i).isr, base := (p.grant i).base } := by
  unfold Pic.grant
  split
  · split <;> rfl
  · rfl

/-- `trunc_8(vbase + i)` (41_pic R141). -/
theorem irqVector_eq_ofNat (vbase : Byte) (i : Irq) : irqVector vbase i = BitVec.ofNat 8 (vbase.toNat + i.toNat) := by
  rw [irqVector, BitVec.ofNat_add, BitVec.ofNat_toNat, BitVec.ofNat_toNat, BitVec.setWidth_eq]

theorem exec_hostPollGrant (i : Irq) (s : State) : exec (.hostPollGrant i) s = .next (s.grant i) := rfl

/-- Settles O32: the bits and the base after a grant, by whether AEOI is on. -/
theorem grantTakesTheInterrupt : Obligations.GrantTakesTheInterrupt := by
  intro s i
  refine ⟨_, exec_hostPollGrant i s, ?frame, ?irr, fun haeoi => ?plain, fun haeoi => ?auto⟩
  case frame =>
    rw [← irqVector_eq_ofNat]
    exact congrArg (fun p => { s with
      pic := p
      delivered := s.delivered ++ [irqVector s.pic.vbase i]
      ret := .vector (some (irqVector s.pic.vbase i)) }) (s.pic.grant_eq i)
  case irr =>
    intro j
    rw [State.grant_pic, Pic.grant_irr, irqBit_clearIrq]
  case plain =>
    refine ⟨?_, fun j => ?_⟩
    · rw [State.grant_pic, Pic.grant_base, if_neg (by simp [haeoi])]
    · rw [State.grant_pic, Pic.irqBit_grant_isr, haeoi, Bool.not_false, Bool.true_and]
  case auto =>
    refine ⟨eq_of_irqBits _ _ fun j => ?_, ?_⟩
    · rw [State.grant_pic, Pic.irqBit_grant_isr, haeoi, Bool.not_true, Bool.false_and, Bool.or_false]
    · rw [State.grant_pic, Pic.grant_base]
      cases s.pic.rot with
      | false => simp
      | true => simp [haeoi]

/-- Settles O37: the bit that the grant set is the bit that the EOI clears. -/
theorem eoiUndoesTheGrant : Obligations.EoiUndoesTheGrant := by
  intro s i haeoi hfree
  have hset : ∀ j : Irq, irqBit (s.grant i).pic.isr j = (irqBit s.pic.isr j || j == i) := by
    intro j
    rw [State.grant_pic, Pic.irqBit_grant_isr, haeoi, Bool.not_false, Bool.true_and]
  refine ⟨_, _, exec_hostPollGrant i s, rfl, eq_of_irqBits _ _ fun j => ?isr, ?entered, ?base⟩
  case isr =>
    rw [irqBit_clearIrq, hset]
    by_cases hj : j = i
    · subst hj; simp [hfree]
    · rw [beq_eq_false_iff_ne.2 hj, Bool.or_false, bne, beq_eq_false_iff_ne.2 hj, Bool.not_false, Bool.and_true]
  case entered => rw [hset, beq_self_eq_true, Bool.or_true]
  case base =>
    dsimp only
    rw [State.grant_pic, Pic.grant_base, if_neg (by simp [haeoi])]

end Sys2Proof.Machine
end

section
/-!
PROOFS. Construction and the invariants (10_state R35, R46), the rejected and the pure accesses (20_memory R76,
40_port_contract R133, 42_pit R186), and the encodings of the clock (43_cmos_rtc R233, R234).
-/
namespace Sys2Proof.Machine

/-! ## Construction -/

/-- A channel after reset does not run and holds no latch (10_state R61). -/
theorem Channel.good_reset : Channel.reset.Good := ⟨nofun, Nat.zero_le _, Nat.zero_le _, fun _ => Nat.zero_le _⟩

/-- Settles O16: after construction nothing runs, nothing is in service, and the line is low. -/
theorem constructionMeetsTheInvariants : Obligations.ConstructionMeetsTheInvariants := by
  refine ⟨by decide, ⟨0, defaultWall, rfl⟩, fun p m w hp => ⟨?pit, fun _ i j hi => ?nesting, nofun, hp⟩⟩
  case pit => exact ⟨Channel.good_reset, Channel.good_reset, Channel.good_reset⟩
  case nesting =>
    have hisr : (State.construct p m w).pic.isr = 0x00#8 := rfl
    rw [hisr, irqBit_zero] at hi
    exact absurd hi nofun

/-! ## Pure reads and rejected accesses -/

/-- Settles O13, read by read: each meaning is a reply. -/
theorem pureReadsChangeNoState : Obligations.PureReadsChangeNoState := by
  intro s i hi
  simp only [List.mem_cons, List.not_mem_nil, or_false] at hi
  obtain rfl | rfl | rfl | rfl | rfl | rfl | rfl | rfl | rfl | rfl | rfl | rfl | rfl | rfl | rfl | rfl | rfl := hi
  all_goals exact ⟨_, rfl⟩

/-- Settles O14: both meanings are the rejected read. -/
theorem writeOnlyReadsAreDiagnosed : Obligations.WriteOnlyReadsAreDiagnosed := fun _ => ⟨rfl, rfl⟩

/-- Settles O49: the three meanings are the rejected control word, each with its code. -/
theorem rejectedControlWordsAreDiagnosedOnly : Obligations.RejectedControlWordsAreDiagnosedOnly :=
  fun _ _ _ _ _ => ⟨rfl, rfl, rfl⟩

/-! ## Encodings (43_cmos_rtc R233, R234) -/

theorem encValue_binary (n : Nat) : encValue true n = n := rfl

theorem encValue_bcd (n : Nat) : encValue false n = n / 10 * 16 + n % 10 := rfl

theorem encValue_lt (b : Bool) {n : Nat} (h : n ≤ 99) : encValue b n < 256 := by
  cases b with
  | true => rw [encValue_binary]; omega
  | false => rw [encValue_bcd]; omega

/-- Up to 99 the encoding fits a byte, so the free byte of log 6 is not met. -/
theorem toNat_enc (b : Bool) {n : Nat} (h : n ≤ 99) : (enc b n).toNat = encValue b n := by
  rw [enc, if_pos (encValue_lt b h), BitVec.toNat_ofNat]
  exact Nat.mod_eq_of_lt (encValue_lt b h)

/-- The two digits of a byte in BCD mode, the number in binary mode. -/
theorem dec_eq (b : Bool) (v : Byte) : dec b v = if b = true then v.toNat else v.toNat / 16 * 10 + v.toNat % 16 := by
  have hv : v.toNat < 256 := v.isLt
  cases b with
  | true => rfl
  | false =>
    rw [dec, if_neg nofun, if_neg nofun, BitVec.extractLsb'_toNat, BitVec.extractLsb'_toNat,
      Nat.shiftRight_eq_div_pow]
    omega

theorem dec_enc (b : Bool) {n : Nat} (h : n ≤ 99) : dec b (enc b n) = n := by
  rw [dec_eq, toNat_enc b h]
  cases b with
  | true => rw [if_pos rfl, encValue_binary]
  | false => rw [if_neg nofun, encValue_bcd]; omega

theorem hour12_bounds (h : Nat) : 1 ≤ hour12 h ∧ hour12 h ≤ 12 := by
  unfold hour12
  split <;> omega

/-- A byte up to 0x12, the largest that encodes an hour of 12-hour mode. -/
theorem enc_hour12_lt (b : Bool) (h : Nat) : (enc b (hour12 h)).toNat < 128 := by
  obtain ⟨-, hle⟩ := hour12_bounds h
  rw [toNat_enc b (hle.trans (by decide))]
  cases b with
  | true => rw [encValue_binary]; omega
  | false => rw [encValue_bcd]; omega

/-- Bit 7 of an hour of 12-hour mode is PM, and the bits below are the hour from 1 to 12. -/
theorem pm_fields : ∀ v : Byte, v.toNat < 128 → ∀ pm : Bool,
    (v ||| (if pm then 0x80#8 else 0x00#8)).getLsbD 7 = pm ∧
    (v ||| (if pm then 0x80#8 else 0x00#8)) &&& 0x7F#8 = v := by decide

theorem encHour_twelve (b : Bool) (h : Nat) :
    (encHour b false h).getLsbD 7 = decide (12 ≤ h) ∧ encHour b false h &&& 0x7F#8 = enc b (hour12 h) := by
  have hpm := pm_fields (enc b (hour12 h)) (enc_hour12_lt b h) (decide (12 ≤ h))
  simpa [encHour] using hpm

theorem decHour_encHour (b h24 : Bool) {h : Nat} (hh : h ≤ 23) : decHour b h24 (encHour b h24 h) = h := by
  cases h24 with
  | true => exact dec_enc b (hh.trans (by decide))
  | false =>
    obtain ⟨hpm, hlow⟩ := encHour_twelve b h
    obtain ⟨-, hle⟩ := hour12_bounds h
    rw [decHour, if_neg nofun, hlow, hpm, dec_enc b (hle.trans (by decide)), hour12]
    simp only [decide_eq_true_eq]
    split <;> split <;> omega

/-- Settles O53: up to 99 a byte holds the encoding, and of an hour bit 7 is PM. -/
theorem encodingsRoundTrip : Obligations.EncodingsRoundTrip :=
  ⟨fun b _ h => dec_enc b h, fun b h24 _ hh => decHour_encHour b h24 hh,
    fun _ h => ⟨toNat_enc true h, toNat_enc false h⟩, fun b h _ => encHour_twelve b h⟩

end Sys2Proof.Machine
end
